-- ==== Sys2Proof/Word.lean ====
section
/-! DEFINITION. The word types of the ALTAIR 8800: bytes and 16-bit words (00_scope.md R7, R8). -/

namespace Sys2Proof

/-- An 8-bit byte: a general register, a memory byte, an instruction byte, a port number. -/
abbrev Byte := BitVec 8

/-- A 16-bit word: an address, a register pair, SP or PC. All arithmetic on it is modulo 2^16 (R64). -/
abbrev Word := BitVec 16

end Sys2Proof
end

