-- ==== Sys2Proof/Config.lean ====
section
/-! DEFINITION. The named parameters of the spec (00_scope.md R7, 92_eei_decisions.md), each with all the values
the spec admits, and the free values: constants with no body, of which no proof can know the value. -/

namespace Sys2Proof.Config

/-- GK_FAMILY (D2): whether the twelve instructions that the source names but does not describe are admitted; `accept` is the value that the spec writes `admit`. -/
inductive GkFamily where
  | accept
  | refuse
deriving DecidableEq, Repr

/-- UNDEF_OPCODE (D3, R104): what the twelve first bytes that no instruction uses do. -/
inductive UndefOpcode where
  | refuse
  | i8080Alias
deriving DecidableEq, Repr

/-- RP11_ARITH (D4, R24): what pair code 11 selects in DAD, INX and DCX. -/
inductive Rp11Arith where
  | sp
  | refuse
deriving DecidableEq, Repr

/-- PSW_ORDER (D5, R150): which byte of the pair PSW lies at the higher stack address. -/
inductive PswOrder where
  | flagsHigh
  | aHigh
deriving DecidableEq, Repr

/-- AC_LOGIC (D7, R188, R192): what the logic and compare instructions do to AC. -/
inductive AcLogic where
  | unaffected
  | i8080
  | draw
deriving DecidableEq, Repr

/-- What sits at an address (R69). -/
inductive MemKind where
  | ram
  | rom
  | absent
deriving DecidableEq, Repr

/-- One record of MemMap: the addresses `first` to `last`, both included, are of kind `kind`. -/
structure Region where
  first : Word
  last : Word
  kind : MemKind
deriving DecidableEq, Repr

/-- The launch parameters of a run (R7); the defaults are the spec's. `eiDelay` is EI_DELAY = 1 (R285).
`memMap` is MemMap as a list of records: the first record that covers an address decides, and an address
that no record covers is ram (R69; log 31). -/
structure Params where
  gkFamily : GkFamily := .accept
  undefOpcode : UndefOpcode := .refuse
  rp11Arith : Rp11Arith := .sp
  pswOrder : PswOrder := .flagsHigh
  acLogic : AcLogic := .unaffected
  eiDelay : Bool := false
  memMap : List Region := []
  resetPc : Word := 0x0000
deriving DecidableEq, Repr

/-- `IoRead` (R72): the byte that the environment supplies for the `n`-th port read, made on `port`.
A free value (U11; log 6). -/
opaque ioRead : (port : Byte) → (n : Nat) → Byte

/-- The byte that a read of an address with no memory draws; `n` counts the draws. A free value (R69, U9; log 8). -/
opaque absentByte : (addr : Word) → (n : Nat) → Byte

/-- AC after a logic or compare instruction with AC_LOGIC = draw. A free value (R188, U5; log 9). -/
opaque acBit : (n : Nat) → Bool

/-- The value of the 8-bit register with code `r` after a reset move. A free value (R41, U7; log 16). -/
opaque resetByte : (n : Nat) → (r : Nat) → Byte

/-- The value of SP after a reset move. A free value (R41, U7; log 16). -/
opaque resetSp : (n : Nat) → Word

/-- The status bit at position `i` of the Status Bit Register after a reset move. A free value (R41, U7; log 16). -/
opaque resetBit : (n : Nat) → (i : Nat) → Bool

/-- The contents of the ram byte at `addr` after a power cycle. A free value (R300, U8; log 17). -/
opaque powerUpByte : (n : Nat) → (addr : Nat) → Byte

end Sys2Proof.Config
end

