-- ==== Sys2Proof/Syntax.lean ====
section
/-! DEFINITION. The instructions of the ALTAIR 8800 as terms: one constructor per row of the opcode table
(30_encoding.md R98), and the operand shapes their fields name (R92 to R94). -/

namespace Sys2Proof

/-- An 8-bit operand, as a 3-bit register code selects it (10_state.md R21): a register, or M (code 110), the
memory byte at the address in H and L. -/
inductive Reg8 where
  | b
  | c
  | d
  | e
  | h
  | l
  | m
  | a
deriving DecidableEq, Repr

/-- The pair that a 2-bit code selects in PUSH and POP (R24): code 11 is PSW, the Status Bit Register and A. -/
inductive PairS where
  | bc
  | de
  | hl
  | psw
deriving DecidableEq, Repr

/-- The pair that a 2-bit code selects in DAD, INX, DCX and LXI (R24): code 11 is SP. -/
inductive PairA where
  | bc
  | de
  | hl
  | sp
deriving DecidableEq, Repr

/-- The pair that the bit X selects in STAX and LDAX (R92). -/
inductive PairX where
  | bc
  | de
deriving DecidableEq, Repr

/-- The eight conditions of the conditional jumps, calls and returns (R96). -/
inductive Cond where
  | nz
  | z
  | nc
  | c
  | po
  | pe
  | p
  | m
deriving DecidableEq, Repr

/-- The 78 instructions. IN and OUT are `inPort` and `outPort` (`in` is a word of Lean). -/
inductive Instr where
  -- Command instructions (40_command.md)
  /-- IN (R120) -/
  | inPort (port : Byte)
  /-- OUT (R121) -/
  | outPort (port : Byte)
  /-- EI (R122) -/
  | ei
  /-- DI (R123) -/
  | di
  /-- HLT (R124) -/
  | hlt
  /-- RST (R125) -/
  | rst (n : BitVec 3)
  /-- CMC (R126) -/
  | cmc
  /-- STC (R127) -/
  | stc
  /-- NOP (R128) -/
  | nop
  -- Single register instructions (41_single_register.md)
  /-- INR (R140) -/
  | inr (r : Reg8)
  /-- DCR (R141) -/
  | dcr (r : Reg8)
  /-- CMA (R142) -/
  | cma
  /-- DAA (R143) -/
  | daa
  -- Register pair instructions (42_register_pair.md)
  /-- PUSH (R150) -/
  | push (p : PairS)
  /-- POP (R151) -/
  | pop (p : PairS)
  /-- DAD (R152) -/
  | dad (p : PairA)
  /-- INX (R153) -/
  | inx (p : PairA)
  /-- DCX (R154) -/
  | dcx (p : PairA)
  /-- XCHG (R155) -/
  | xchg
  /-- XTHL (R156) -/
  | xthl
  /-- SPHL (R157) -/
  | sphl
  -- Rotate accumulator instructions (43_rotate.md)
  /-- RLC (R170) -/
  | rlc
  /-- RRC (R171) -/
  | rrc
  /-- RAL (R172) -/
  | ral
  /-- RAR (R173) -/
  | rar
  -- Data transfer instructions (44_data_transfer.md)
  /-- MOV (R180) -/
  | mov (dst src : Reg8)
  /-- STAX (R181) -/
  | stax (x : PairX)
  /-- LDAX (R182) -/
  | ldax (x : PairX)
  /-- ADD (R184) -/
  | add (r : Reg8)
  /-- ADC (R185) -/
  | adc (r : Reg8)
  /-- SUB (R186) -/
  | sub (r : Reg8)
  /-- SBB (R187) -/
  | sbb (r : Reg8)
  /-- ANA (R189) -/
  | ana (r : Reg8)
  /-- XRA (R190) -/
  | xra (r : Reg8)
  /-- ORA (R191) -/
  | ora (r : Reg8)
  /-- CMP (R192) -/
  | cmp (r : Reg8)
  /-- STA (R193) -/
  | sta (addr : Word)
  /-- LDA (R194) -/
  | lda (addr : Word)
  /-- SHLD (R195) -/
  | shld (addr : Word)
  /-- LHLD (R196) -/
  | lhld (addr : Word)
  -- Immediate instructions (45_immediate.md)
  /-- LXI (R210) -/
  | lxi (p : PairA) (d16 : Word)
  /-- MVI (R211) -/
  | mvi (r : Reg8) (d8 : Byte)
  /-- ADI (R212) -/
  | adi (d8 : Byte)
  /-- ACI (R213) -/
  | aci (d8 : Byte)
  /-- SUI (R214) -/
  | sui (d8 : Byte)
  /-- SBI (R215) -/
  | sbi (d8 : Byte)
  /-- ANI (R216) -/
  | ani (d8 : Byte)
  /-- XRI (R217) -/
  | xri (d8 : Byte)
  /-- ORI (R218) -/
  | ori (d8 : Byte)
  /-- CPI (R219) -/
  | cpi (d8 : Byte)
  -- Branching instructions (46_branch.md)
  /-- PCHL (R231) -/
  | pchl
  /-- JMP (R232) -/
  | jmp (addr : Word)
  /-- JC (R233) -/
  | jc (addr : Word)
  /-- JNC (R234) -/
  | jnc (addr : Word)
  /-- JZ (R235) -/
  | jz (addr : Word)
  /-- JNZ (R236) -/
  | jnz (addr : Word)
  /-- JM (R237) -/
  | jm (addr : Word)
  /-- JP (R238) -/
  | jp (addr : Word)
  /-- JPE (R239) -/
  | jpe (addr : Word)
  /-- JPO (R240) -/
  | jpo (addr : Word)
  /-- CALL (R241) -/
  | call (addr : Word)
  /-- CC (R242) -/
  | cc (addr : Word)
  /-- CNC (R243) -/
  | cnc (addr : Word)
  /-- CZ (R244) -/
  | cz (addr : Word)
  /-- CNZ (R245) -/
  | cnz (addr : Word)
  /-- CM (R246) -/
  | cm (addr : Word)
  /-- CP (R247) -/
  | cp (addr : Word)
  /-- CPE (R248) -/
  | cpe (addr : Word)
  /-- CPO (R249) -/
  | cpo (addr : Word)
  /-- RET (R250) -/
  | ret
  /-- RC (R251) -/
  | rc
  /-- RNC (R252) -/
  | rnc
  /-- RZ (R253) -/
  | rz
  /-- RNZ (R254) -/
  | rnz
  /-- RM (R255) -/
  | rm
  /-- RP (R256) -/
  | rp
  /-- RPE (R257) -/
  | rpe
  /-- RPO (R258) -/
  | rpo
deriving DecidableEq, Repr

end Sys2Proof
end

