-- ==== Sys2Proof/WellFormed.lean ====
section
/-! DEFINITION. Which instruction terms are instructions of the machine (30_encoding.md R94, R101). -/

namespace Sys2Proof

/-- Every term is an instruction but MOV M,M: "The source and destination registers cannot both equal 110"
(R101). Every other field admits all its values (R94, R100). -/
abbrev Instr.WellFormed (i : Instr) : Prop := i ≠ .mov .m .m

end Sys2Proof
end

