-- ==== Sys2Proof/Decode.lean ====
section
/-! DEFINITION. From instruction bytes to instructions (30_encoding.md R90 to R104), and back: the decoder follows the
algorithm of R103, the encoder the patterns of R98. Total on any bytes; what is not an instruction is rejected by name. -/

namespace Sys2Proof

open Config

/-! ### Bytes and words -/

/-- `hi:lo` (R10): the 16-bit value whose more significant byte is `hi`. -/
def wordOf (hi lo : Byte) : Word := hi ++ lo

/-- Bits 15:8 of a word (R8). -/
def hiByte (w : Word) : Byte := w.extractLsb' 8 8

/-- Bits 7:0 of a word (R8). -/
def loByte (w : Word) : Byte := w.extractLsb' 0 8

/-! ### Fields (R92) and the codes in them (R21, R24, R94) -/

/-- The register code table of R21. -/
def Reg8.code : Reg8 → BitVec 3
  | .b => 0b000
  | .c => 0b001
  | .d => 0b010
  | .e => 0b011
  | .h => 0b100
  | .l => 0b101
  | .m => 0b110
  | .a => 0b111

/-- The operand that a register code selects (R21). -/
def reg8OfCode : Nat → Reg8
  | 0 => .b
  | 1 => .c
  | 2 => .d
  | 3 => .e
  | 4 => .h
  | 5 => .l
  | 6 => .m
  | _ => .a

/-- The pair codes of PUSH and POP (R24). -/
def PairS.code : PairS → BitVec 2
  | .bc => 0b00
  | .de => 0b01
  | .hl => 0b10
  | .psw => 0b11

/-- The pair that a 2-bit code selects in PUSH and POP (R24). -/
def pairSOfCode : Nat → PairS
  | 0 => .bc
  | 1 => .de
  | 2 => .hl
  | _ => .psw

/-- The pair codes of DAD, INX, DCX and LXI (R24). -/
def PairA.code : PairA → BitVec 2
  | .bc => 0b00
  | .de => 0b01
  | .hl => 0b10
  | .sp => 0b11

/-- The pair that a 2-bit code selects in DAD, INX, DCX and LXI (R24). -/
def pairAOfCode : Nat → PairA
  | 0 => .bc
  | 1 => .de
  | 2 => .hl
  | _ => .sp

/-- The bit X of STAX and LDAX (R92): 0 selects B and C, 1 selects D and E. -/
def PairX.code : PairX → BitVec 1
  | .bc => 0b0
  | .de => 0b1

/-- The condition codes (R96), bits 5:3 of the conditional jumps, calls and returns. -/
def Cond.code : Cond → BitVec 3
  | .nz => 0b000
  | .z => 0b001
  | .nc => 0b010
  | .c => 0b011
  | .po => 0b100
  | .pe => 0b101
  | .p => 0b110
  | .m => 0b111

/-! ### Lengths (R90) -/

/-- The length in bytes of the instruction that the first byte `b` begins (R90, R103): two for MVI, the eight
immediate accumulator operations, IN and OUT; three for LXI, SHLD, LHLD, STA, LDA, the jumps but PCHL, and the calls; one
for every other byte. -/
def instrLength (b : Byte) : Nat :=
  let y := b.toNat / 8 % 8
  let z := b.toNat % 8
  match b.toNat / 64, z with
  | 0, 1 => if y % 2 = 0 then 3 else 1
  | 0, 2 => if 4 ≤ y then 3 else 1
  | 0, 6 => 2
  | 3, 2 => 3
  | 3, 3 => if y = 0 then 3 else if y = 2 ∨ y = 3 then 2 else 1
  | 3, 4 => 3
  | 3, 5 => if y = 1 then 3 else 1
  | 3, 6 => 2
  | _, _ => 1

/-! ### The decoder -/

/-- Why a first byte is not run as an instruction. -/
inductive Reject where
  /-- One of the twelve first bytes that no instruction uses, with UNDEF_OPCODE = refuse (R104). -/
  | undefinedOpcode (b : Byte)
  /-- One of the 22 first bytes of the general-knowledge family, with GK_FAMILY = refuse (R104). -/
  | notDescribed (b : Byte)
  /-- 0x39, 0x33 or 0x3B with RP11_ARITH = refuse (R24). -/
  | pairCodeRefused (b : Byte)
deriving DecidableEq, Repr

/-- The quarter `00` of R103: `y` is bits 5:3 and `z` bits 2:0 of the first byte `b`. -/
def decodeQuarter0 (b : Byte) (y z : Nat) (b2 b3 : Byte) : Except Reject Instr :=
  let addr := wordOf b3 b2
  match z with
  | 0 => if y = 0 then .ok .nop else .error (.undefinedOpcode b)
  | 1 => if y % 2 = 0 then .ok (.lxi (pairAOfCode (y / 2)) addr) else .ok (.dad (pairAOfCode (y / 2)))
  | 2 =>
    match y with
    | 0 => .ok (.stax .bc)
    | 1 => .ok (.ldax .bc)
    | 2 => .ok (.stax .de)
    | 3 => .ok (.ldax .de)
    | 4 => .ok (.shld addr)
    | 5 => .ok (.lhld addr)
    | 6 => .ok (.sta addr)
    | _ => .ok (.lda addr)
  | 3 => if y % 2 = 0 then .ok (.inx (pairAOfCode (y / 2))) else .ok (.dcx (pairAOfCode (y / 2)))
  | 4 => .ok (.inr (reg8OfCode y))
  | 5 => .ok (.dcr (reg8OfCode y))
  | 6 => .ok (.mvi (reg8OfCode y) b2)
  | _ =>
    match y with
    | 0 => .ok .rlc
    | 1 => .ok .rrc
    | 2 => .ok .ral
    | 3 => .ok .rar
    | 4 => .ok .daa
    | 5 => .ok .cma
    | 6 => .ok .stc
    | _ => .ok .cmc

/-- The accumulator operation with code `y` on the operand `r` (R95). -/
def decodeAccumulator (y : Nat) (r : Reg8) : Instr :=
  match y with
  | 0 => .add r
  | 1 => .adc r
  | 2 => .sub r
  | 3 => .sbb r
  | 4 => .ana r
  | 5 => .xra r
  | 6 => .ora r
  | _ => .cmp r

/-- The immediate accumulator operation with code `y` (R95). -/
def decodeImmediate (y : Nat) (d8 : Byte) : Instr :=
  match y with
  | 0 => .adi d8
  | 1 => .aci d8
  | 2 => .sui d8
  | 3 => .sbi d8
  | 4 => .ani d8
  | 5 => .xri d8
  | 6 => .ori d8
  | _ => .cpi d8

/-- The conditional return with condition code `y` (R96). -/
def decodeReturn (y : Nat) : Instr :=
  match y with
  | 0 => .rnz
  | 1 => .rz
  | 2 => .rnc
  | 3 => .rc
  | 4 => .rpo
  | 5 => .rpe
  | 6 => .rp
  | _ => .rm

/-- The conditional jump with condition code `y` (R96). -/
def decodeJump (y : Nat) (addr : Word) : Instr :=
  match y with
  | 0 => .jnz addr
  | 1 => .jz addr
  | 2 => .jnc addr
  | 3 => .jc addr
  | 4 => .jpo addr
  | 5 => .jpe addr
  | 6 => .jp addr
  | _ => .jm addr

/-- The conditional call with condition code `y` (R96). -/
def decodeCall (y : Nat) (addr : Word) : Instr :=
  match y with
  | 0 => .cnz addr
  | 1 => .cz addr
  | 2 => .cnc addr
  | 3 => .cc addr
  | 4 => .cpo addr
  | 5 => .cpe addr
  | 6 => .cp addr
  | _ => .cm addr

/-- The quarter `11` of R103. -/
def decodeQuarter3 (b : Byte) (y z : Nat) (b2 b3 : Byte) : Except Reject Instr :=
  let addr := wordOf b3 b2
  match z with
  | 0 => .ok (decodeReturn y)
  | 1 =>
    if y % 2 = 0 then .ok (.pop (pairSOfCode (y / 2))) else
    match y / 2 with
    | 0 => .ok .ret
    | 1 => .error (.undefinedOpcode b)
    | 2 => .ok .pchl
    | _ => .ok .sphl
  | 2 => .ok (decodeJump y addr)
  | 3 =>
    match y with
    | 0 => .ok (.jmp addr)
    | 1 => .error (.undefinedOpcode b)
    | 2 => .ok (.outPort b2)
    | 3 => .ok (.inPort b2)
    | 4 => .ok .xthl
    | 5 => .ok .xchg
    | 6 => .ok .di
    | _ => .ok .ei
  | 4 => .ok (decodeCall y addr)
  | 5 =>
    if y % 2 = 0 then .ok (.push (pairSOfCode (y / 2))) else
    if y = 1 then .ok (.call addr) else .error (.undefinedOpcode b)
  | 6 => .ok (decodeImmediate y b2)
  | _ => .ok (.rst (BitVec.ofNat 3 y))

/-- The decode algorithm of R103, with every parameter at the value that admits all 78 instructions and gives the twelve
undefined bytes no meaning. `b1` alone decides the instruction; an operand byte the instruction does not have is not read. -/
def decode (b1 b2 b3 : Byte) : Except Reject Instr :=
  let y := b1.toNat / 8 % 8
  let z := b1.toNat % 8
  match b1.toNat / 64 with
  | 0 => decodeQuarter0 b1 y z b2 b3
  | 1 => if b1 = 0x76 then .ok .hlt else .ok (.mov (reg8OfCode y) (reg8OfCode z))
  | 2 => .ok (decodeAccumulator y (reg8OfCode z))
  | _ => decodeQuarter3 b1 y z b2 b3

/-! ### The parameters that act on decoding -/

/-- The 22 first bytes marked † in R99: LXI, MVI, the eight immediate accumulator operations, IN and OUT. -/
def isGeneralKnowledge (b : Byte) : Bool :=
  let y := b.toNat / 8 % 8
  match b.toNat / 64, b.toNat % 8 with
  | 0, 1 => y % 2 == 0
  | 0, 6 => true
  | 3, 6 => true
  | 3, 3 => y == 2 || y == 3
  | _, _ => false

/-- DAD, INX and DCX with pair code 11: the bytes 0x39, 0x33 and 0x3B (R24). -/
def isPair11Arith (b : Byte) : Bool := b == 0x39 || b == 0x33 || b == 0x3B

/-- The twelve undefined first bytes as the Intel 8080 runs them (R104): 0x08 to 0x38 as NOP, 0xCB as JMP, 0xD9 as RET, 0xDD,
0xED and 0xFD as CALL. Every other byte stands for itself. -/
def i8080Alias (b : Byte) : Byte :=
  if b = 0x08 ∨ b = 0x10 ∨ b = 0x18 ∨ b = 0x20 ∨ b = 0x28 ∨ b = 0x30 ∨ b = 0x38 then 0x00
  else if b = 0xCB then 0xC3
  else if b = 0xD9 then 0xC9
  else if b = 0xDD ∨ b = 0xED ∨ b = 0xFD then 0xCD
  else b

/-- The first byte as UNDEF_OPCODE has it (R104). -/
def effectiveByte (p : Params) (b : Byte) : Byte :=
  match p.undefOpcode with
  | .refuse => b
  | .i8080Alias => i8080Alias b

/-- Decoding under the parameters GK_FAMILY, RP11_ARITH and UNDEF_OPCODE (R104, R24). -/
def decodeUnder (p : Params) (b1 b2 b3 : Byte) : Except Reject Instr :=
  if p.gkFamily = .refuse ∧ isGeneralKnowledge b1 = true then .error (.notDescribed b1)
  else if p.rp11Arith = .refuse ∧ isPair11Arith b1 = true then .error (.pairCodeRefused b1)
  else decode (effectiveByte p b1) b2 b3

/-! ### The encoder -/

/-- A three-byte instruction: byte 2 is the low byte of the operand, byte 3 the high byte (R91). -/
def withWord (b1 : Byte) (w : Word) : List Byte := [b1, loByte w, hiByte w]

/-- The bytes of an instruction, by the patterns of R98. (MOV M,M, which is not well formed, has no bytes of its own: the pattern
gives it 0x76, which is HLT; R101.) -/
def encode : Instr → List Byte
  | .inPort port => [0b11011011, port]
  | .outPort port => [0b11010011, port]
  | .ei => [0b11111011]
  | .di => [0b11110011]
  | .hlt => [0b01110110]
  | .rst n => [0b11#2 ++ n ++ 0b111#3]
  | .cmc => [0b00111111]
  | .stc => [0b00110111]
  | .nop => [0b00000000]
  | .inr r => [0b00#2 ++ r.code ++ 0b100#3]
  | .dcr r => [0b00#2 ++ r.code ++ 0b101#3]
  | .cma => [0b00101111]
  | .daa => [0b00100111]
  | .push p => [0b11#2 ++ p.code ++ 0b0101#4]
  | .pop p => [0b11#2 ++ p.code ++ 0b0001#4]
  | .dad p => [0b00#2 ++ p.code ++ 0b1001#4]
  | .inx p => [0b00#2 ++ p.code ++ 0b0011#4]
  | .dcx p => [0b00#2 ++ p.code ++ 0b1011#4]
  | .xchg => [0b11101011]
  | .xthl => [0b11100011]
  | .sphl => [0b11111001]
  | .rlc => [0b00000111]
  | .rrc => [0b00001111]
  | .ral => [0b00010111]
  | .rar => [0b00011111]
  | .mov dst src => [0b01#2 ++ dst.code ++ src.code]
  | .stax x => [0b000#3 ++ x.code ++ 0b0010#4]
  | .ldax x => [0b000#3 ++ x.code ++ 0b1010#4]
  | .add r => [0b10000#5 ++ r.code]
  | .adc r => [0b10001#5 ++ r.code]
  | .sub r => [0b10010#5 ++ r.code]
  | .sbb r => [0b10011#5 ++ r.code]
  | .ana r => [0b10100#5 ++ r.code]
  | .xra r => [0b10101#5 ++ r.code]
  | .ora r => [0b10110#5 ++ r.code]
  | .cmp r => [0b10111#5 ++ r.code]
  | .sta addr => withWord 0b00110010 addr
  | .lda addr => withWord 0b00111010 addr
  | .shld addr => withWord 0b00100010 addr
  | .lhld addr => withWord 0b00101010 addr
  | .lxi p d16 => withWord (0b00#2 ++ p.code ++ 0b0001#4) d16
  | .mvi r d8 => [0b00#2 ++ r.code ++ 0b110#3, d8]
  | .adi d8 => [0b11000110, d8]
  | .aci d8 => [0b11001110, d8]
  | .sui d8 => [0b11010110, d8]
  | .sbi d8 => [0b11011110, d8]
  | .ani d8 => [0b11100110, d8]
  | .xri d8 => [0b11101110, d8]
  | .ori d8 => [0b11110110, d8]
  | .cpi d8 => [0b11111110, d8]
  | .pchl => [0b11101001]
  | .jmp addr => withWord 0b11000011 addr
  | .jc addr => withWord 0b11011010 addr
  | .jnc addr => withWord 0b11010010 addr
  | .jz addr => withWord 0b11001010 addr
  | .jnz addr => withWord 0b11000010 addr
  | .jm addr => withWord 0b11111010 addr
  | .jp addr => withWord 0b11110010 addr
  | .jpe addr => withWord 0b11101010 addr
  | .jpo addr => withWord 0b11100010 addr
  | .call addr => withWord 0b11001101 addr
  | .cc addr => withWord 0b11011100 addr
  | .cnc addr => withWord 0b11010100 addr
  | .cz addr => withWord 0b11001100 addr
  | .cnz addr => withWord 0b11000100 addr
  | .cm addr => withWord 0b11111100 addr
  | .cp addr => withWord 0b11110100 addr
  | .cpe addr => withWord 0b11101100 addr
  | .cpo addr => withWord 0b11100100 addr
  | .ret => [0b11001001]
  | .rc => [0b11011000]
  | .rnc => [0b11010000]
  | .rz => [0b11001000]
  | .rnz => [0b11000000]
  | .rm => [0b11111000]
  | .rp => [0b11110000]
  | .rpe => [0b11101000]
  | .rpo => [0b11100000]

/-- The length of an instruction in bytes (R90). -/
def Instr.length (i : Instr) : Nat := (encode i).length

/-! ### The opcode table's numbering of bits -/

/-- Byte `k` (0, 1 or 2) of an instruction whose bits are `w`, bit 0 the least significant bit of the first byte; every bit
from `nbits` on is 0. -/
def tableByte (nbits w k : Nat) : Byte := BitVec.ofNat 8 (w % 2 ^ nbits / 2 ^ (8 * k))

/-- The instruction that the decoder reads from an instruction whose bits are `w`. -/
def decodeTableWord (nbits w : Nat) : Option Instr :=
  match decode (tableByte nbits w 0) (tableByte nbits w 1) (tableByte nbits w 2) with
  | .ok i => some i
  | .error _ => none

end Sys2Proof
end

