-- ==== Sys2Proof/Machine/State.lean ====
section
/-! DEFINITION. The state of the machine (the table that opens 10_state.md), the reasons a step can stop, and the state after reset
(R41). -/

namespace Sys2Proof.Machine

open Config

/-- Memory: the bytes that differ from `Memory.unlisted`, as (address, byte) pairs with addresses strictly rising (R60). -/
abbrev Memory := List Host.Cell

/-- What an address that memory does not list holds. The spec leaves the contents of memory at power-on open (R41, U8);
DESIGN CHOICE, log 5. -/
def Memory.unlisted : Byte := 0x00

/-- The canonical form: addresses strictly rising and below 2^16, no entry equal to what an unlisted address holds. -/
abbrev Memory.wf (m : Memory) : Prop :=
  m.Pairwise (fun x y => x.1 < y.1) ∧ ∀ c ∈ m, c.1 < 65536 ∧ c.2 ≠ Memory.unlisted

/-- The seven 8-bit general registers (R20). -/
structure Regs where
  a : Byte
  b : Byte
  c : Byte
  d : Byte
  e : Byte
  h : Byte
  l : Byte
deriving DecidableEq, Repr

/-- The five status bits (R27): Sign, Zero, Auxiliary Carry, Parity, Carry. -/
structure Flags where
  s : Bool
  z : Bool
  ac : Bool
  p : Bool
  cy : Bool
deriving DecidableEq, Repr

/-- The two forms of reset (R300). -/
inductive ResetKind where
  | powerKept
  | powerCycle
deriving DecidableEq, Repr

/-- What the environment does at one boundary between two steps (R272, R277, R300): at most one reset and at most one interrupt
offer, with the instruction byte the device supplies. -/
structure Boundary where
  reset : Option ResetKind
  offer : Option Byte
deriving DecidableEq, Repr

/-- A boundary at which the environment does nothing. -/
def Boundary.quiet : Boundary := { reset := none, offer := none }

/-- The state of the machine. The last three fields are the model's own: `params` are the launch parameters, which no step
changes (R7; log 1), `env` holds the environment's moves at the coming boundaries, the first one at the coming boundary, and none after
the list ends (R272; log 2), and `draws` counts the free values drawn so far (log 8). -/
structure State where
  /-- A, B, C, D, E, H, L (R20) -/
  regs : Regs
  /-- SP (R25) -/
  sp : Word
  /-- PC (R26) -/
  pc : Word
  /-- S, Z, AC, P, CY (R27) -/
  flags : Flags
  /-- INTE, the interrupt flip-flop (R35) -/
  inte : Bool
  /-- halted, the stopped state (R36) -/
  halted : Bool
  /-- ei_shadow (R285): set only with EI_DELAY = 1 -/
  eiShadow : Bool
  /-- Mem (R60) -/
  mem : Memory
  /-- The output trace: the (port, byte) pairs output so far, oldest first (R72) -/
  outTrace : List (Byte × Byte)
  /-- The count of port reads made so far (R72) -/
  ioReads : Nat
  /-- The launch parameters (R7) -/
  params : Params
  /-- The moves of the environment at the coming boundaries (R272, R300) -/
  env : List Boundary
  /-- The count of free values drawn so far -/
  draws : Nat
deriving DecidableEq, Repr

/-- The machine has no fault of any kind: "The machine has no synchronous exceptions" (R270). The type has no
constructor, so that no step can answer with one. Safe: nothing is stopped by it. -/
inductive Fault
deriving DecidableEq, Repr

/-- Where the spec says `refuse`: it gives the situation no meaning, and the model does not continue past it. -/
inductive Refusal where
  /-- Raised by `exec` for an instruction that has no meaning yet (there is none left). Safe: it claims nothing. -/
  | notModelled (mnemonic : String)
  /-- Raised by a step whose first byte the parameters do not admit (R104, R24). Safe: the spec claims nothing of what follows. -/
  | rejected (why : Reject)
  /-- Raised by a step that accepts an interrupt offer whose byte `b` is not an RST (R272). Safe, for the same reason. -/
  | interruptNotRst (b : Byte)
deriving DecidableEq, Repr

/-- The state after reset (R41): PC, INTE and halted as the spec states them, for the default parameters. Registers, SP, status bits
and memory are "unspecified" there: zero is the model's choice (DESIGN CHOICE, log 4 and 5). -/
def State.reset : State where
  regs := { a := 0, b := 0, c := 0, d := 0, e := 0, h := 0, l := 0 }
  sp := 0
  pc := 0x0000
  flags := { s := false, z := false, ac := false, p := false, cy := false }
  inte := false
  halted := false
  eiShadow := false
  mem := []
  outTrace := []
  ioReads := 0
  params := {}
  env := []
  draws := 0

end Sys2Proof.Machine
end

