-- ==== Sys2Proof/Machine/Ops.lean ====
section
/-! DEFINITION. The named operations over memory, the stack, the ports and the control state, with the entry to an interrupt,
the return from one, and the reset move. -/

namespace Sys2Proof.Machine

open Config

/-! ### Updates of one field -/

/-- Write the general registers. -/
def State.setRegs (s : State) (v : Regs) : State := { s with regs := v }
/-- Write SP. -/
def State.setSp (s : State) (v : Word) : State := { s with sp := v }
/-- Write PC. -/
def State.setPc (s : State) (v : Word) : State := { s with pc := v }
/-- Write the status bits. -/
def State.setFlags (s : State) (v : Flags) : State := { s with flags := v }
/-- Write INTE. -/
def State.setInte (s : State) (v : Bool) : State := { s with inte := v }
/-- Write halted. -/
def State.setHalted (s : State) (v : Bool) : State := { s with halted := v }
/-- Write ei_shadow. -/
def State.setEiShadow (s : State) (v : Bool) : State := { s with eiShadow := v }
/-- Write memory. -/
def State.setMem (s : State) (v : Memory) : State := { s with mem := v }
/-- Write the output trace. -/
def State.setOutTrace (s : State) (v : List (Byte × Byte)) : State := { s with outTrace := v }
/-- Write the count of port reads. -/
def State.setIoReads (s : State) (v : Nat) : State := { s with ioReads := v }
/-- Write the environment's coming moves. -/
def State.setEnv (s : State) (v : List Boundary) : State := { s with env := v }
/-- Write the count of draws. -/
def State.setDraws (s : State) (v : Nat) : State := { s with draws := v }

/-- `PC <- next` for an instruction of `n` bytes (R26). -/
def State.advance (s : State) (n : Nat) : State := s.setPc (s.pc + BitVec.ofNat 16 n)

/-! ### Memory -/

/-- The byte that the list holds for address number `k`. -/
def Memory.lookup (k : Nat) : Memory → Byte
  | [] => Memory.unlisted
  | c :: m => if c.1 = k then c.2 else Memory.lookup k m

/-- Insert a byte before the first higher address. -/
def Memory.insert (k : Nat) (v : Byte) : Memory → Memory
  | [] => [(k, v)]
  | c :: m => if k < c.1 then (k, v) :: c :: m else c :: Memory.insert k v m

/-- `Mem[a]` (R60). -/
def Memory.read (m : Memory) (a : Word) : Byte := Memory.lookup a.toNat m

/-- `Mem[a] <- v` (R60), keeping the canonical form. -/
def Memory.write (m : Memory) (a : Word) (v : Byte) : Memory :=
  let rest := m.filter (fun c => c.1 ≠ a.toNat)
  if v = Memory.unlisted then rest else Memory.insert a.toNat v rest

/-- The memory whose byte at address number `k` is `f k`. -/
def Memory.ofFn (f : Nat → Byte) : Memory :=
  ((List.range 65536).map (fun k => (k, f k))).filter (fun c => c.2 ≠ Memory.unlisted)

/-- `MemMap(a)` (R69): the first record that covers the address; ram where none does. -/
def kindAt (regions : List Region) (a : Word) : MemKind :=
  match regions with
  | [] => .ram
  | r :: rest => if r.first ≤ a ∧ a ≤ r.last then r.kind else kindAt rest a

/-- `MemMap(a)` of this run (R69). -/
def State.kind (s : State) (a : Word) : MemKind := kindAt s.params.memMap a

/-- `MemRead(a, 1)` (R62, R69): the byte of ram or rom; a fresh free value where there is no memory. -/
def State.readByte (s : State) (a : Word) : Byte × State :=
  match s.kind a with
  | .absent => (absentByte a s.draws, s.setDraws (s.draws + 1))
  | _ => (Memory.read s.mem a, s)

/-- `MemWrite(a, 1, v)` (R63, R69): it changes ram only. -/
def State.writeByte (s : State) (a : Word) (v : Byte) : State :=
  match s.kind a with
  | .ram => s.setMem (Memory.write s.mem a v)
  | _ => s

/-- `MemRead(a, 2)` (R64), low byte first (R67). -/
def State.readWord (s : State) (a : Word) : Word × State :=
  let lo := s.readByte a
  let hi := lo.2.readByte (a + 1)
  (wordOf hi.1 lo.1, hi.2)

/-- `MemWrite(a, 2, v)` (R64), low byte first (R67). -/
def State.writeWord (s : State) (a : Word) (v : Word) : State :=
  (s.writeByte a (loByte v)).writeByte (a + 1) (hiByte v)

/-! ### The stack (R71) -/

/-- Store `first` at SP-1 and `second` at SP-2, then `SP <- SP-2` (R150). -/
def State.pushBytes (s : State) (first second : Byte) : State :=
  ((s.writeByte (s.sp - 1) first).writeByte (s.sp - 2) second).setSp (s.sp - 2)

/-- `push16(v)` (R10): the high byte at SP-1, the low byte at SP-2. -/
def State.push16 (s : State) (v : Word) : State := s.pushBytes (hiByte v) (loByte v)

/-- `pop16()` (R10): the low byte at SP, the high byte at SP+1, then `SP <- SP+2`. -/
def State.pop16 (s : State) : Word × State :=
  let r := s.readWord s.sp
  (r.1, r.2.setSp (s.sp + 2))

/-! ### Calls and returns (R125, R230) -/

/-- Push the return address `ret` and go to `target`: a taken call, an RST, the entry to an interrupt. -/
def State.callTo (s : State) (ret target : Word) : State := (s.push16 ret).setPc target

/-- The target of RST `n` (R68, R125): `00000000 : 00 : n : 000`. -/
def rstTarget (n : BitVec 3) : Word := 0b0000000000#10 ++ n ++ 0b000#3

/-- `PC <- pop16()`: a taken return, and so the return from an interrupt handler too (R250, R275). -/
def State.returnTo (s : State) : State :=
  let r := s.pop16
  r.2.setPc r.1

/-! ### The I/O space (R72) -/

/-- `IoRead(port)`: a free byte; the count of port reads goes up by one. -/
def State.portRead (s : State) (port : Byte) : Byte × State :=
  (ioRead port s.ioReads, s.setIoReads (s.ioReads + 1))

/-- `IoWrite(port, v)`: the pair is appended to the output trace. -/
def State.portWrite (s : State) (port v : Byte) : State := s.setOutTrace (s.outTrace ++ [(port, v)])

/-! ### The interrupt (R272 to R274, R285) -/

/-- Whether an offer made at this boundary is accepted (R273): INTE is 1 and, with EI_DELAY = 1, ei_shadow is 0. -/
def State.accepts (s : State) : Bool := s.inte && !(s.params.eiDelay && s.eiShadow)

/-- Whether a byte is one of the eight RST bytes `11 nnn 111` (R272). -/
def isRstByte (b : Byte) : Bool := b.extractLsb' 6 2 == 0b11#2 && b.extractLsb' 0 3 == 0b111#3

/-- The restart number of an RST byte (R125). -/
def rstNumber (b : Byte) : BitVec 3 := b.extractLsb' 3 3

/-- Acceptance and entry (R273, R274): INTE, halted and ei_shadow become 0; PC, not advanced, is pushed; control goes to
the RST target. -/
def State.takeInterrupt (s : State) (n : BitVec 3) : State :=
  (((s.setInte false).setHalted false).setEiShadow false).callTo s.pc (rstTarget n)

/-! ### Reset (R300) -/

/-- The registers after a reset move: free values (R41). -/
def resetRegs (n : Nat) : Regs where
  a := resetByte n 7
  b := resetByte n 0
  c := resetByte n 1
  d := resetByte n 2
  e := resetByte n 3
  h := resetByte n 4
  l := resetByte n 5

/-- The status bits after a reset move: free values (R41). -/
def resetFlags (n : Nat) : Flags where
  s := resetBit n 7
  z := resetBit n 6
  ac := resetBit n 4
  p := resetBit n 2
  cy := resetBit n 0

/-- Memory after a reset move (R300): as it was, or after a power cycle a free value in every ram byte. -/
def State.resetMem (s : State) (k : ResetKind) : Memory :=
  match k with
  | .powerKept => s.mem
  | .powerCycle => Memory.ofFn (fun a =>
      if s.kind (BitVec.ofNat 16 a) = .ram then powerUpByte s.draws a else Memory.lookup a s.mem)

/-- The reset move (R300, R41). -/
def State.resetMove (s : State) (k : ResetKind) : State :=
  { s with
    pc := s.params.resetPc
    inte := false
    halted := false
    eiShadow := false
    regs := resetRegs s.draws
    sp := resetSp s.draws
    flags := resetFlags s.draws
    mem := s.resetMem k
    draws := s.draws + 1 }

end Sys2Proof.Machine
end

