-- ==== Sys2Proof/Machine/Operands.lean ====
section
/-! DEFINITION. The operand forms: 8-bit operands by register code (R21), register pairs (R23, R24), the Status Bit
Register (R33), and the conditions (R96). -/

namespace Sys2Proof.Machine

open Config

/-! ### Register pairs: the first-named register is the high byte (R23) -/

/-- `BC` (R23). -/
def Regs.bc (r : Regs) : Word := wordOf r.b r.c
/-- `DE` (R23). -/
def Regs.de (r : Regs) : Word := wordOf r.d r.e
/-- `HL` (R23). -/
def Regs.hl (r : Regs) : Word := wordOf r.h r.l
/-- `BC <- v`. -/
def Regs.setBc (r : Regs) (v : Word) : Regs := { r with b := hiByte v, c := loByte v }
/-- `DE <- v`. -/
def Regs.setDe (r : Regs) (v : Word) : Regs := { r with d := hiByte v, e := loByte v }
/-- `HL <- v`. -/
def Regs.setHl (r : Regs) (v : Word) : Regs := { r with h := hiByte v, l := loByte v }

/-- `A <- v`. -/
def State.setA (s : State) (v : Byte) : State := s.setRegs { s.regs with a := v }

/-! ### 8-bit operands (R21) -/

/-- `x[r]`: the register, or for M the byte at HL. -/
def State.readOperand (s : State) (r : Reg8) : Byte × State :=
  match r with
  | .b => (s.regs.b, s)
  | .c => (s.regs.c, s)
  | .d => (s.regs.d, s)
  | .e => (s.regs.e, s)
  | .h => (s.regs.h, s)
  | .l => (s.regs.l, s)
  | .m => s.readByte s.regs.hl
  | .a => (s.regs.a, s)

/-- `x[r] <- v`: the register, or for M the byte at HL. -/
def State.writeOperand (s : State) (r : Reg8) (v : Byte) : State :=
  match r with
  | .b => s.setRegs { s.regs with b := v }
  | .c => s.setRegs { s.regs with c := v }
  | .d => s.setRegs { s.regs with d := v }
  | .e => s.setRegs { s.regs with e := v }
  | .h => s.setRegs { s.regs with h := v }
  | .l => s.setRegs { s.regs with l := v }
  | .m => s.writeByte s.regs.hl v
  | .a => s.setRegs { s.regs with a := v }

/-! ### Pairs by code (R24) -/

/-- `rp[p]` of DAD, INX and DCX. -/
def State.readPair (s : State) (p : PairA) : Word :=
  match p with
  | .bc => s.regs.bc
  | .de => s.regs.de
  | .hl => s.regs.hl
  | .sp => s.sp

/-- `rp[p] <- v` of INX, DCX and LXI. -/
def State.writePair (s : State) (p : PairA) (v : Word) : State :=
  match p with
  | .bc => s.setRegs (s.regs.setBc v)
  | .de => s.setRegs (s.regs.setDe v)
  | .hl => s.setRegs (s.regs.setHl v)
  | .sp => s.setSp v

/-- The address that X selects in STAX and LDAX (R181, R182). -/
def Regs.indirect (r : Regs) (x : PairX) : Word :=
  match x with
  | .bc => r.bc
  | .de => r.de

/-! ### The Status Bit Register (R33) -/

/-- One bit of a byte. -/
def bit (v : Bool) : BitVec 1 := BitVec.ofBool v

/-- `S : Z : 0 : AC : 0 : P : 1 : CY` (R33). -/
def Flags.toByte (f : Flags) : Byte :=
  bit f.s ++ bit f.z ++ 0#1 ++ bit f.ac ++ 0#1 ++ bit f.p ++ 1#1 ++ bit f.cy

/-- The status bits that a popped byte sets or resets; bits 5, 3 and 1 are ignored (R151). -/
def Flags.ofByte (v : Byte) : Flags where
  s := v.getLsbD 7
  z := v.getLsbD 6
  ac := v.getLsbD 4
  p := v.getLsbD 2
  cy := v.getLsbD 0

/-- What PUSH stores: the byte for SP-1, then the byte for SP-2 (R150; PSW_ORDER decides for PSW). -/
def State.pushOperand (s : State) (p : PairS) : Byte × Byte :=
  match p with
  | .bc => (s.regs.b, s.regs.c)
  | .de => (s.regs.d, s.regs.e)
  | .hl => (s.regs.h, s.regs.l)
  | .psw =>
    match s.params.pswOrder with
    | .flagsHigh => (s.flags.toByte, s.regs.a)
    | .aHigh => (s.regs.a, s.flags.toByte)

/-- What POP loads from the byte `hi` found at SP+1 and the byte `lo` found at SP (R151; PSW_ORDER decides for PSW). -/
def State.popOperand (s : State) (p : PairS) (hi lo : Byte) : State :=
  match p with
  | .bc => s.setRegs { s.regs with b := hi, c := lo }
  | .de => s.setRegs { s.regs with d := hi, e := lo }
  | .hl => s.setRegs { s.regs with h := hi, l := lo }
  | .psw =>
    match s.params.pswOrder with
    | .flagsHigh => (s.setA lo).setFlags (Flags.ofByte hi)
    | .aHigh => (s.setA hi).setFlags (Flags.ofByte lo)

/-! ### Conditions (R96) -/

/-- `cond(ccc)`: the truth of a condition, from the status bits as they stand. -/
def Flags.holds (f : Flags) (k : Cond) : Bool :=
  match k with
  | .nz => !f.z
  | .z => f.z
  | .nc => !f.cy
  | .c => f.cy
  | .po => !f.p
  | .pe => f.p
  | .p => !f.s
  | .m => f.s

end Sys2Proof.Machine
end

