-- ==== Sys2Proof/Machine/Flags.lean ====
section
/-! DEFINITION. How results and status bits are computed: the 8-bit adder (R183), the logic unit (R188), increment and
decrement (R140, R141), decimal adjust (R143), the 16-bit adder (R152) and the rotates (R170 to R173). -/

namespace Sys2Proof.Machine

open Config

/-! ### Sign, Zero, Parity (R28 to R30) -/

/-- The number of 1 bits of a byte. -/
def onesCount (v : Byte) : Nat := (List.range 8).countP (fun i => v.getLsbD i)

/-- `even_parity(v)` (R10, R30). -/
def evenParity (v : Byte) : Bool := onesCount v % 2 == 0

/-- `szp(v)` (R10): Sign is bit 7, Zero that the byte is 0x00, Parity that it has an even number of 1 bits. -/
def Flags.szp (f : Flags) (v : Byte) : Flags :=
  { f with s := v.getLsbD 7, z := v == 0, p := evenParity v }

/-- The 4-bit value of bits 3:0. -/
def lowNibble (v : Byte) : Nat := v.toNat % 16

/-- A status bit as the number it adds. -/
def bitNat (c : Bool) : Nat := if c then 1 else 0

/-! ### The 8-bit adder (R183) -/

/-- `add8(a, b, c)`: the nine-bit sum; CY is its bit 8, AC the carry out of bit 3 (R32). -/
def add8 (a b : Byte) (c : Bool) (f : Flags) : Byte × Flags :=
  let t : BitVec 9 := a.setWidth 9 + b.setWidth 9 + BitVec.ofNat 9 (bitNat c)
  let r : Byte := t.setWidth 8
  let ac := decide (lowNibble a + lowNibble b + bitNat c > 15)
  (r, Flags.szp { f with cy := t.getLsbD 8, ac := ac } r)

/-- `sub8(a, b, c)`: the sum `a + ~b + (1 - c)` in nine bits; CY is the complement of its bit 8. -/
def sub8 (a b : Byte) (c : Bool) (f : Flags) : Byte × Flags :=
  let t : BitVec 9 := a.setWidth 9 + (~~~b).setWidth 9 + BitVec.ofNat 9 (1 - bitNat c)
  let r : Byte := t.setWidth 8
  let ac := decide (lowNibble a + lowNibble (~~~b) + (1 - bitNat c) > 15)
  (r, Flags.szp { f with cy := !t.getLsbD 8, ac := ac } r)

/-! ### The logic unit (R188) and AC after a logic or compare instruction -/

/-- The three operations of the logic unit (R188). -/
inductive LogicKind where
  | and
  | xor
  | or
deriving DecidableEq, Repr

/-- The 8-bit result of a logic operation (R189 to R191). -/
def logicResult (k : LogicKind) (a b : Byte) : Byte :=
  match k with
  | .and => a &&& b
  | .xor => a ^^^ b
  | .or => a ||| b

/-- AC after a logic operation on an Intel 8080 (R188). -/
def logicAc8080 (k : LogicKind) (a b : Byte) : Bool :=
  match k with
  | .and => a.getLsbD 3 || b.getLsbD 3
  | .xor => false
  | .or => false

/-- AC after a logic or compare instruction, by AC_LOGIC (R188, R192): as it was, the Intel 8080's value, or a free one. -/
def acAfter (p : AcLogic) (before silicon drawn : Bool) : Bool :=
  match p with
  | .unaffected => before
  | .i8080 => silicon
  | .draw => drawn

/-- `logic8` (R188): CY is reset, S, Z and P describe the result, AC is by AC_LOGIC. -/
def logic8 (p : AcLogic) (k : LogicKind) (a b : Byte) (drawn : Bool) (f : Flags) : Byte × Flags :=
  let r := logicResult k a b
  (r, Flags.szp { f with cy := false, ac := acAfter p f.ac (logicAc8080 k a b) drawn } r)

/-- The status bits after a comparison (R192): those of `sub8(a, b, 0)`, but for AC, which is by AC_LOGIC. -/
def compareFlags (p : AcLogic) (a b : Byte) (drawn : Bool) (f : Flags) : Flags :=
  let g := (sub8 a b false f).2
  { g with ac := acAfter p f.ac g.ac drawn }

/-- The free bit that AC_LOGIC = draw takes at this point of the run. -/
def State.drawnAc (s : State) : Bool := acBit s.draws

/-- Count the draw of AC: there is one with AC_LOGIC = draw only. -/
def State.countAcDraw (s : State) : State :=
  match s.params.acLogic with
  | .draw => s.setDraws (s.draws + 1)
  | _ => s

/-! ### Increment, decrement, decimal adjust -/

/-- The result and status bits of INR (R140): CY is not written. -/
def inc8 (v : Byte) (f : Flags) : Byte × Flags :=
  let r := v + 1
  (r, Flags.szp { f with ac := decide (lowNibble v + 1 > 15) } r)

/-- The result and status bits of DCR (R141): `v + 0xFF`; CY is not written. -/
def dec8 (v : Byte) (f : Flags) : Byte × Flags :=
  let r := v + 0xFF
  (r, Flags.szp { f with ac := decide (lowNibble v + 0xF > 15) } r)

/-- The result and status bits of DAA (R143), in its two steps. -/
def decimalAdjust (a0 : Byte) (f : Flags) : Byte × Flags :=
  let loAdj := decide (lowNibble a0 > 9) || f.ac
  let t : BitVec 9 := if loAdj then a0.setWidth 9 + 6 else a0.setWidth 9
  let ac := loAdj && decide (lowNibble a0 + 6 > 15)
  let c1 := t.getLsbD 8
  let a1 : Byte := t.setWidth 8
  let hiAdj := decide (a1.toNat / 16 > 9) || f.cy || c1
  let u : BitVec 9 := if hiAdj then a1.setWidth 9 + 0x60 else a1.setWidth 9
  let r : Byte := u.setWidth 8
  (r, Flags.szp { f with ac := ac, cy := if hiAdj then true else f.cy } r)

/-! ### The 16-bit adder and the rotates -/

/-- The sum and carry of DAD (R152), in seventeen bits. -/
def add16 (x y : Word) : Word × Bool :=
  let t : BitVec 17 := x.setWidth 17 + y.setWidth 17
  (t.setWidth 16, t.getLsbD 16)

/-- RLC (R170): `a[6:0] : a[7]`, CY is `a[7]`. -/
def rotateLeft8 (a : Byte) : Byte × Bool := (a.extractLsb' 0 7 ++ a.extractLsb' 7 1, a.getLsbD 7)

/-- RRC (R171): `a[0] : a[7:1]`, CY is `a[0]`. -/
def rotateRight8 (a : Byte) : Byte × Bool := (a.extractLsb' 0 1 ++ a.extractLsb' 1 7, a.getLsbD 0)

/-- RAL (R172): `a[6:0] : c`, CY is `a[7]`. -/
def rotateLeftCarry (a : Byte) (c : Bool) : Byte × Bool := (a.extractLsb' 0 7 ++ bit c, a.getLsbD 7)

/-- RAR (R173): `c : a[7:1]`, CY is `a[0]`. -/
def rotateRightCarry (a : Byte) (c : Bool) : Byte × Bool := (bit c ++ a.extractLsb' 1 7, a.getLsbD 0)

end Sys2Proof.Machine
end

