-- ==== Sys2Proof/Machine/Command.lean ====
section
/-! DEFINITION. The command instructions (40_command.md R120 to R128). -/

namespace Sys2Proof.Machine

open Host

/-- The answer of a meaning. `Fault` is empty and no meaning refuses, so every meaning answers with a next state (R270). -/
abbrev Result := Outcome State Fault Refusal

/-- IN (R120): `A <- IoRead(byte2)`. -/
def execIn (port : Byte) (s : State) : Result :=
  let r := s.portRead port
  .next ((r.2.setA r.1).advance 2)

/-- OUT (R121): `IoWrite(byte2, A)`. -/
def execOut (port : Byte) (s : State) : Result :=
  .next ((s.portWrite port s.regs.a).advance 2)

/-- EI (R122): INTE is set; with EI_DELAY = 1 ei_shadow is set too (R285). -/
def execEi (s : State) : Result :=
  .next (((s.setInte true).setEiShadow s.params.eiDelay).advance 1)

/-- DI (R123): INTE is reset. -/
def execDi (s : State) : Result :=
  .next ((s.setInte false).advance 1)

/-- HLT (R124): PC goes to the next instruction and the processor stops. -/
def execHlt (s : State) : Result :=
  .next ((s.advance 1).setHalted true)

/-- RST (R125): `push16(next); PC <- 8 * n`. -/
def execRst (n : BitVec 3) (s : State) : Result :=
  .next (s.callTo (s.pc + 1) (rstTarget n))

/-- CMC (R126): CY is complemented. -/
def execCmc (s : State) : Result :=
  .next ((s.setFlags { s.flags with cy := !s.flags.cy }).advance 1)

/-- STC (R127): CY is set. -/
def execStc (s : State) : Result :=
  .next ((s.setFlags { s.flags with cy := true }).advance 1)

/-- NOP (R128): PC goes to the next instruction. -/
def execNop (s : State) : Result :=
  .next (s.advance 1)

end Sys2Proof.Machine
end

