-- ==== Sys2Proof/Machine/Branch.lean ====
section
/-! DEFINITION. The branching instructions (46_branch.md R230 to R259). None of them writes a status bit. -/

namespace Sys2Proof.Machine

/-- A conditional jump (R230): taken `PC <- addr`, not taken `PC <- next`. -/
def State.jumpIf (s : State) (k : Cond) (addr : Word) : State :=
  if s.flags.holds k then s.setPc addr else s.advance 3

/-- A conditional call (R230): taken `push16(next); PC <- addr`, not taken `PC <- next`. -/
def State.callIf (s : State) (k : Cond) (addr : Word) : State :=
  if s.flags.holds k then s.callTo (s.pc + 3) addr else s.advance 3

/-- A conditional return (R230): taken `PC <- pop16()`, not taken `PC <- next`. -/
def State.returnIf (s : State) (k : Cond) : State :=
  if s.flags.holds k then s.returnTo else s.advance 1

/-! ### Jumps -/

/-- PCHL (R231): `PC <- HL`. -/
def execPchl (s : State) : Result := .next (s.setPc s.regs.hl)

/-- JMP (R232). -/
def execJmp (addr : Word) (s : State) : Result := .next (s.setPc addr)

/-- JC (R233). -/
def execJc (addr : Word) (s : State) : Result := .next (s.jumpIf .c addr)

/-- JNC (R234). -/
def execJnc (addr : Word) (s : State) : Result := .next (s.jumpIf .nc addr)

/-- JZ (R235). -/
def execJz (addr : Word) (s : State) : Result := .next (s.jumpIf .z addr)

/-- JNZ (R236). -/
def execJnz (addr : Word) (s : State) : Result := .next (s.jumpIf .nz addr)

/-- JM (R237). -/
def execJm (addr : Word) (s : State) : Result := .next (s.jumpIf .m addr)

/-- JP (R238). -/
def execJp (addr : Word) (s : State) : Result := .next (s.jumpIf .p addr)

/-- JPE (R239). -/
def execJpe (addr : Word) (s : State) : Result := .next (s.jumpIf .pe addr)

/-- JPO (R240). -/
def execJpo (addr : Word) (s : State) : Result := .next (s.jumpIf .po addr)

/-! ### Calls -/

/-- CALL (R241): `push16(next); PC <- addr`. -/
def execCall (addr : Word) (s : State) : Result := .next (s.callTo (s.pc + 3) addr)

/-- CC (R242). -/
def execCc (addr : Word) (s : State) : Result := .next (s.callIf .c addr)

/-- CNC (R243). -/
def execCnc (addr : Word) (s : State) : Result := .next (s.callIf .nc addr)

/-- CZ (R244). -/
def execCz (addr : Word) (s : State) : Result := .next (s.callIf .z addr)

/-- CNZ (R245). -/
def execCnz (addr : Word) (s : State) : Result := .next (s.callIf .nz addr)

/-- CM (R246). -/
def execCm (addr : Word) (s : State) : Result := .next (s.callIf .m addr)

/-- CP (R247). -/
def execCp (addr : Word) (s : State) : Result := .next (s.callIf .p addr)

/-- CPE (R248). -/
def execCpe (addr : Word) (s : State) : Result := .next (s.callIf .pe addr)

/-- CPO (R249). -/
def execCpo (addr : Word) (s : State) : Result := .next (s.callIf .po addr)

/-! ### Returns -/

/-- RET (R250): `PC <- pop16()`. -/
def execRet (s : State) : Result := .next s.returnTo

/-- RC (R251). -/
def execRc (s : State) : Result := .next (s.returnIf .c)

/-- RNC (R252). -/
def execRnc (s : State) : Result := .next (s.returnIf .nc)

/-- RZ (R253). -/
def execRz (s : State) : Result := .next (s.returnIf .z)

/-- RNZ (R254). -/
def execRnz (s : State) : Result := .next (s.returnIf .nz)

/-- RM (R255). -/
def execRm (s : State) : Result := .next (s.returnIf .m)

/-- RP (R256). -/
def execRp (s : State) : Result := .next (s.returnIf .p)

/-- RPE (R257). -/
def execRpe (s : State) : Result := .next (s.returnIf .pe)

/-- RPO (R258). -/
def execRpo (s : State) : Result := .next (s.returnIf .po)

end Sys2Proof.Machine
end

