-- ==== Sys2Proof/Machine/Accumulator.lean ====
section
/-! DEFINITION. The shared accumulator operations: what the register forms (44_data_transfer.md R184 to R192) and the
immediate forms (45_immediate.md R212 to R219) do once their operand byte is read. -/

namespace Sys2Proof.Machine

/-- `A <- add8(A, b, c)` (R183). -/
def State.addToA (s : State) (b : Byte) (c : Bool) : State :=
  let x := add8 s.regs.a b c s.flags
  (s.setA x.1).setFlags x.2

/-- `A <- sub8(A, b, c)` (R183). -/
def State.subFromA (s : State) (b : Byte) (c : Bool) : State :=
  let x := sub8 s.regs.a b c s.flags
  (s.setA x.1).setFlags x.2

/-- `A <- A op b; logic8(...)` (R188). -/
def State.logicOnA (s : State) (k : LogicKind) (b : Byte) : State :=
  let x := logic8 s.params.acLogic k s.regs.a b s.drawnAc s.flags
  (s.countAcDraw.setA x.1).setFlags x.2

/-- The comparison of A with `b` (R192): only status bits change. -/
def State.compareA (s : State) (b : Byte) : State :=
  s.countAcDraw.setFlags (compareFlags s.params.acLogic s.regs.a b s.drawnAc s.flags)

end Sys2Proof.Machine
end

