-- ==== Sys2Proof/Machine/DataTransfer.lean ====
section
/-! DEFINITION. The data transfer instructions (44_data_transfer.md R180 to R196). -/

namespace Sys2Proof.Machine

/-- MOV (R180): `v <- x[SSS]; x[DDD] <- v`. -/
def execMov (dst src : Reg8) (s : State) : Result :=
  let v := s.readOperand src
  .next ((v.2.writeOperand dst v.1).advance 1)

/-- STAX (R181). -/
def execStax (x : PairX) (s : State) : Result :=
  .next ((s.writeByte (s.regs.indirect x) s.regs.a).advance 1)

/-- LDAX (R182). -/
def execLdax (x : PairX) (s : State) : Result :=
  let v := s.readByte (s.regs.indirect x)
  .next ((v.2.setA v.1).advance 1)

/-- ADD (R184). -/
def execAdd (r : Reg8) (s : State) : Result :=
  let v := s.readOperand r
  .next ((v.2.addToA v.1 false).advance 1)

/-- ADC (R185): CY as it was before the instruction is added too. -/
def execAdc (r : Reg8) (s : State) : Result :=
  let v := s.readOperand r
  .next ((v.2.addToA v.1 s.flags.cy).advance 1)

/-- SUB (R186). -/
def execSub (r : Reg8) (s : State) : Result :=
  let v := s.readOperand r
  .next ((v.2.subFromA v.1 false).advance 1)

/-- SBB (R187): CY as it was before the instruction is subtracted too. -/
def execSbb (r : Reg8) (s : State) : Result :=
  let v := s.readOperand r
  .next ((v.2.subFromA v.1 s.flags.cy).advance 1)

/-- ANA (R189). -/
def execAna (r : Reg8) (s : State) : Result :=
  let v := s.readOperand r
  .next ((v.2.logicOnA .and v.1).advance 1)

/-- XRA (R190). -/
def execXra (r : Reg8) (s : State) : Result :=
  let v := s.readOperand r
  .next ((v.2.logicOnA .xor v.1).advance 1)

/-- ORA (R191). -/
def execOra (r : Reg8) (s : State) : Result :=
  let v := s.readOperand r
  .next ((v.2.logicOnA .or v.1).advance 1)

/-- CMP (R192). -/
def execCmp (r : Reg8) (s : State) : Result :=
  let v := s.readOperand r
  .next ((v.2.compareA v.1).advance 1)

/-- STA (R193). -/
def execSta (addr : Word) (s : State) : Result :=
  .next ((s.writeByte addr s.regs.a).advance 3)

/-- LDA (R194). -/
def execLda (addr : Word) (s : State) : Result :=
  let v := s.readByte addr
  .next ((v.2.setA v.1).advance 3)

/-- SHLD (R195): L at the address, H at the next higher one. -/
def execShld (addr : Word) (s : State) : Result :=
  .next ((s.writeWord addr s.regs.hl).advance 3)

/-- LHLD (R196): L from the address, H from the next higher one. -/
def execLhld (addr : Word) (s : State) : Result :=
  let v := s.readWord addr
  .next ((v.2.setRegs (s.regs.setHl v.1)).advance 3)

end Sys2Proof.Machine
end

