-- ==== Sys2Proof/Machine/Immediate.lean ====
section
/-! DEFINITION. The immediate instructions (45_immediate.md R210 to R219). -/

namespace Sys2Proof.Machine

/-- LXI (R210): `rp[p] <- byte3 : byte2`. -/
def execLxi (p : PairA) (d16 : Word) (s : State) : Result :=
  .next ((s.writePair p d16).advance 3)

/-- MVI (R211): `x[r] <- byte2`. -/
def execMvi (r : Reg8) (d8 : Byte) (s : State) : Result :=
  .next ((s.writeOperand r d8).advance 2)

/-- ADI (R212). -/
def execAdi (d8 : Byte) (s : State) : Result :=
  .next ((s.addToA d8 false).advance 2)

/-- ACI (R213). -/
def execAci (d8 : Byte) (s : State) : Result :=
  .next ((s.addToA d8 s.flags.cy).advance 2)

/-- SUI (R214). -/
def execSui (d8 : Byte) (s : State) : Result :=
  .next ((s.subFromA d8 false).advance 2)

/-- SBI (R215). -/
def execSbi (d8 : Byte) (s : State) : Result :=
  .next ((s.subFromA d8 s.flags.cy).advance 2)

/-- ANI (R216). -/
def execAni (d8 : Byte) (s : State) : Result :=
  .next ((s.logicOnA .and d8).advance 2)

/-- XRI (R217). -/
def execXri (d8 : Byte) (s : State) : Result :=
  .next ((s.logicOnA .xor d8).advance 2)

/-- ORI (R218). -/
def execOri (d8 : Byte) (s : State) : Result :=
  .next ((s.logicOnA .or d8).advance 2)

/-- CPI (R219). -/
def execCpi (d8 : Byte) (s : State) : Result :=
  .next ((s.compareA d8).advance 2)

end Sys2Proof.Machine
end

