-- ==== Sys2Proof/Machine/RegisterPair.lean ====
section
/-! DEFINITION. The register pair instructions (42_register_pair.md R150 to R157). -/

namespace Sys2Proof.Machine

/-- PUSH (R150): the first register at SP-1, the second at SP-2, SP less two. -/
def execPush (p : PairS) (s : State) : Result :=
  let v := s.pushOperand p
  .next ((s.pushBytes v.1 v.2).advance 1)

/-- POP (R151): the second register from SP, the first from SP+1, SP plus two. -/
def execPop (p : PairS) (s : State) : Result :=
  let r := s.pop16
  .next ((r.2.popOperand p (hiByte r.1) (loByte r.1)).advance 1)

/-- DAD (R152): the pair is added to HL; CY is the carry out of bit 15. -/
def execDad (p : PairA) (s : State) : Result :=
  let t := add16 s.regs.hl (s.readPair p)
  .next (((s.setRegs (s.regs.setHl t.1)).setFlags { s.flags with cy := t.2 }).advance 1)

/-- INX (R153): the pair plus one. -/
def execInx (p : PairA) (s : State) : Result :=
  .next ((s.writePair p (s.readPair p + 1)).advance 1)

/-- DCX (R154): the pair plus 0xFFFF. -/
def execDcx (p : PairA) (s : State) : Result :=
  .next ((s.writePair p (s.readPair p + 0xFFFF)).advance 1)

/-- XCHG (R155): H with D, L with E. -/
def execXchg (s : State) : Result :=
  .next ((s.setRegs { s.regs with h := s.regs.d, d := s.regs.h, l := s.regs.e, e := s.regs.l }).advance 1)

/-- XTHL (R156): both reads, then both writes; L with the byte at SP, H with the byte at SP+1. -/
def execXthl (s : State) : Result :=
  let r := s.readWord s.sp
  let w := r.2.writeWord s.sp s.regs.hl
  .next ((w.setRegs (s.regs.setHl r.1)).advance 1)

/-- SPHL (R157): `SP <- HL`. -/
def execSphl (s : State) : Result :=
  .next ((s.setSp s.regs.hl).advance 1)

end Sys2Proof.Machine
end

