-- ==== Sys2Proof/Machine/Rotate.lean ====
section
/-! DEFINITION. The rotate accumulator instructions (43_rotate.md R170 to R173). -/

namespace Sys2Proof.Machine

/-- Write A and CY together. -/
def State.setRotated (s : State) (x : Byte × Bool) : State :=
  (s.setA x.1).setFlags { s.flags with cy := x.2 }

/-- RLC (R170). -/
def execRlc (s : State) : Result :=
  .next ((s.setRotated (rotateLeft8 s.regs.a)).advance 1)

/-- RRC (R171). -/
def execRrc (s : State) : Result :=
  .next ((s.setRotated (rotateRight8 s.regs.a)).advance 1)

/-- RAL (R172). -/
def execRal (s : State) : Result :=
  .next ((s.setRotated (rotateLeftCarry s.regs.a s.flags.cy)).advance 1)

/-- RAR (R173). -/
def execRar (s : State) : Result :=
  .next ((s.setRotated (rotateRightCarry s.regs.a s.flags.cy)).advance 1)

end Sys2Proof.Machine
end

