-- ==== Sys2Proof/Machine/SingleRegister.lean ====
section
/-! DEFINITION. The single register instructions (41_single_register.md R140 to R143). -/

namespace Sys2Proof.Machine

/-- Read `x[r]`, compute a byte and the status bits from it, and write both back: INR and DCR (R140, R141). -/
def State.modifyOperand (s : State) (r : Reg8) (f : Byte → Flags → Byte × Flags) : State :=
  let v := s.readOperand r
  let x := f v.1 s.flags
  (v.2.writeOperand r x.1).setFlags x.2

/-- INR (R140). -/
def execInr (r : Reg8) (s : State) : Result :=
  .next ((s.modifyOperand r inc8).advance 1)

/-- DCR (R141). -/
def execDcr (r : Reg8) (s : State) : Result :=
  .next ((s.modifyOperand r dec8).advance 1)

/-- CMA (R142): `A <- ~A`; no status bit is written. -/
def execCma (s : State) : Result :=
  .next ((s.setA (~~~s.regs.a)).advance 1)

/-- DAA (R143). -/
def execDaa (s : State) : Result :=
  let x := decimalAdjust s.regs.a s.flags
  .next (((s.setA x.1).setFlags x.2).advance 1)

end Sys2Proof.Machine
end

