-- ==== Sys2Proof/Machine/Dispatch.lean ====
section
/-! DEFINITION. One arm per instruction: each calls its meaning. -/

namespace Sys2Proof.Machine

open Host

def exec (i : Instr) (s : State) : Host.Outcome State Fault Refusal :=
  match i with
  | .inPort port => Sys2Proof.Machine.execIn port s
  | .outPort port => Sys2Proof.Machine.execOut port s
  | .ei => Sys2Proof.Machine.execEi s
  | .di => Sys2Proof.Machine.execDi s
  | .hlt => Sys2Proof.Machine.execHlt s
  | .rst n => Sys2Proof.Machine.execRst n s
  | .cmc => Sys2Proof.Machine.execCmc s
  | .stc => Sys2Proof.Machine.execStc s
  | .nop => Sys2Proof.Machine.execNop s
  | .inr r => Sys2Proof.Machine.execInr r s
  | .dcr r => Sys2Proof.Machine.execDcr r s
  | .cma => Sys2Proof.Machine.execCma s
  | .daa => Sys2Proof.Machine.execDaa s
  | .push p => Sys2Proof.Machine.execPush p s
  | .pop p => Sys2Proof.Machine.execPop p s
  | .dad p => Sys2Proof.Machine.execDad p s
  | .inx p => Sys2Proof.Machine.execInx p s
  | .dcx p => Sys2Proof.Machine.execDcx p s
  | .xchg => Sys2Proof.Machine.execXchg s
  | .xthl => Sys2Proof.Machine.execXthl s
  | .sphl => Sys2Proof.Machine.execSphl s
  | .rlc => Sys2Proof.Machine.execRlc s
  | .rrc => Sys2Proof.Machine.execRrc s
  | .ral => Sys2Proof.Machine.execRal s
  | .rar => Sys2Proof.Machine.execRar s
  | .mov dst src => Sys2Proof.Machine.execMov dst src s
  | .stax x => Sys2Proof.Machine.execStax x s
  | .ldax x => Sys2Proof.Machine.execLdax x s
  | .add r => Sys2Proof.Machine.execAdd r s
  | .adc r => Sys2Proof.Machine.execAdc r s
  | .sub r => Sys2Proof.Machine.execSub r s
  | .sbb r => Sys2Proof.Machine.execSbb r s
  | .ana r => Sys2Proof.Machine.execAna r s
  | .xra r => Sys2Proof.Machine.execXra r s
  | .ora r => Sys2Proof.Machine.execOra r s
  | .cmp r => Sys2Proof.Machine.execCmp r s
  | .sta addr => Sys2Proof.Machine.execSta addr s
  | .lda addr => Sys2Proof.Machine.execLda addr s
  | .shld addr => Sys2Proof.Machine.execShld addr s
  | .lhld addr => Sys2Proof.Machine.execLhld addr s
  | .lxi p d16 => Sys2Proof.Machine.execLxi p d16 s
  | .mvi r d8 => Sys2Proof.Machine.execMvi r d8 s
  | .adi d8 => Sys2Proof.Machine.execAdi d8 s
  | .aci d8 => Sys2Proof.Machine.execAci d8 s
  | .sui d8 => Sys2Proof.Machine.execSui d8 s
  | .sbi d8 => Sys2Proof.Machine.execSbi d8 s
  | .ani d8 => Sys2Proof.Machine.execAni d8 s
  | .xri d8 => Sys2Proof.Machine.execXri d8 s
  | .ori d8 => Sys2Proof.Machine.execOri d8 s
  | .cpi d8 => Sys2Proof.Machine.execCpi d8 s
  | .pchl => Sys2Proof.Machine.execPchl s
  | .jmp addr => Sys2Proof.Machine.execJmp addr s
  | .jc addr => Sys2Proof.Machine.execJc addr s
  | .jnc addr => Sys2Proof.Machine.execJnc addr s
  | .jz addr => Sys2Proof.Machine.execJz addr s
  | .jnz addr => Sys2Proof.Machine.execJnz addr s
  | .jm addr => Sys2Proof.Machine.execJm addr s
  | .jp addr => Sys2Proof.Machine.execJp addr s
  | .jpe addr => Sys2Proof.Machine.execJpe addr s
  | .jpo addr => Sys2Proof.Machine.execJpo addr s
  | .call addr => Sys2Proof.Machine.execCall addr s
  | .cc addr => Sys2Proof.Machine.execCc addr s
  | .cnc addr => Sys2Proof.Machine.execCnc addr s
  | .cz addr => Sys2Proof.Machine.execCz addr s
  | .cnz addr => Sys2Proof.Machine.execCnz addr s
  | .cm addr => Sys2Proof.Machine.execCm addr s
  | .cp addr => Sys2Proof.Machine.execCp addr s
  | .cpe addr => Sys2Proof.Machine.execCpe addr s
  | .cpo addr => Sys2Proof.Machine.execCpo addr s
  | .ret => Sys2Proof.Machine.execRet s
  | .rc => Sys2Proof.Machine.execRc s
  | .rnc => Sys2Proof.Machine.execRnc s
  | .rz => Sys2Proof.Machine.execRz s
  | .rnz => Sys2Proof.Machine.execRnz s
  | .rm => Sys2Proof.Machine.execRm s
  | .rp => Sys2Proof.Machine.execRp s
  | .rpe => Sys2Proof.Machine.execRpe s
  | .rpo => Sys2Proof.Machine.execRpo s

end Sys2Proof.Machine
end

