-- ==== Sys2Proof/Machine/Fetch.lean ====
section
/-! DEFINITION. Instruction fetch (R40, R67, R91), and the placing of an instruction where it is fetched. -/

namespace Sys2Proof.Machine

open Config

/-- Fetch and decode (R40): byte 1 at PC decides the instruction and its length; byte 2 is read if the length is 2 or 3, byte 3
if it is 3. An operand byte that is not read is not used. -/
def State.fetch (s : State) : Except Reject Instr × State :=
  let f1 := s.readByte s.pc
  let n := instrLength (effectiveByte s.params f1.1)
  let f2 := if 2 ≤ n then f1.2.readByte (s.pc + 1) else (0, f1.2)
  let f3 := if 3 ≤ n then f2.2.readByte (s.pc + 2) else (0, f2.2)
  (decodeUnder s.params f1.1 f2.1 f3.1, f3.2)

/-- Store the three bytes of an instruction at PC, PC+1 and PC+2. -/
def Memory.place (m : Memory) (pc : Word) (b1 b2 b3 : Byte) : Memory :=
  Memory.write (Memory.write (Memory.write m pc b1) (pc + 1) b2) (pc + 2) b3

/-- The environment's coming moves with a quiet boundary in the first place. -/
def quietFirst : List Boundary → List Boundary
  | [] => []
  | _ :: rest => Boundary.quiet :: rest

end Sys2Proof.Machine
end

