-- ==== Sys2Proof/Machine/Cycle.lean ====
section
/-! DEFINITION. One step of the machine: the move of the environment at this boundary, if it makes one that takes effect, and the
processor's own step otherwise (R40, R272, R273, R300). -/

namespace Sys2Proof.Machine

open Host

/-- What the environment does at this boundary: nothing, where the list has ended. -/
def State.boundary (s : State) : Boundary :=
  match s.env with
  | [] => Boundary.quiet
  | b :: _ => b

/-- The processor's own step (R40): nothing while it is halted (R36; log 3), else fetch, decode, execute. Every step that is not EI ends
with ei_shadow 0 (R285): it is reset before the instruction runs, and EI sets it. -/
def State.processorStep (s : State) : Result :=
  if s.halted then .next s else
  match s.fetch with
  | (.ok i, t) => exec i (t.setEiShadow false)
  | (.error why, _) => .refused (.rejected why)

/-- An accepted offer (R272 to R274): the RST is entered, any other byte is refused. -/
def State.acceptOffer (s : State) (b : Byte) : Result :=
  if isRstByte b then .next (s.takeInterrupt (rstNumber b)) else .refused (.interruptNotRst b)

/-- One step: the boundary is taken off the environment's list; a reset wins over an offer (R300); an offer that is not accepted has no
effect and is not remembered (R272). -/
def State.move (s : State) : Result :=
  let t := s.setEnv s.env.tail
  match s.boundary.reset with
  | some k => .next (t.resetMove k)
  | none =>
    match s.boundary.offer with
    | some b => if t.accepts then t.acceptOffer b else t.processorStep
    | none => t.processorStep

end Sys2Proof.Machine
end

