-- ==== Sys2Proof/Machine/Step.lean ====
section
/-! DEFINITION. The step of the machine, and the state with one instruction placed where the next step fetches it. -/

namespace Sys2Proof.Machine

/-- One step. -/
def step (s : State) : Host.Outcome State Fault Refusal := s.move

/-- `s` with the instruction whose bits are `w` (the bits from `nbits` on zero, up to three bytes) stored at PC, the processor
running, and no move of the environment at the coming boundary, so that the next step fetches and runs it. It stands for the loading of
a program from outside the machine (R306; log 20). -/
def State.withFetchWord (s : State) (nbits w : Nat) : State :=
  { s with
    halted := false
    env := quietFirst s.env
    mem := Memory.place s.mem s.pc (tableByte nbits w 0) (tableByte nbits w 1) (tableByte nbits w 2) }

end Sys2Proof.Machine
end

