-- ==== Sys2Proof/Safety.lean ====
section
/-! DEFINITION. How a run of the machine can stand (70_reset_and_hazards.md R307), in the words that claims use. -/

namespace Sys2Proof.Machine

open Config

/-- The end of a run (R307(a)): halted, and no interrupt can be accepted. -/
def State.final (s : State) : Prop := s.halted = true ∧ s.inte = false

/-- The waiting state (R307(b)): halted, and an interrupt offer can continue the run. -/
def State.waiting (s : State) : Prop := s.halted = true ∧ s.inte = true

/-- The environment never resets the machine in the run to come (R309). -/
def State.noReset (s : State) : Prop := ∀ b ∈ s.env, b.reset = none

/-- A run of `n` steps that meets no refusal and ends in `t`. -/
def State.runsTo (s : State) (n : Nat) (t : State) : Prop :=
  match n with
  | 0 => s = t
  | n + 1 => ∃ u, step s = .next u ∧ u.runsTo n t

/-- There is memory, ram or rom, at the address (R69). -/
def State.present (s : State) (a : Word) : Prop := s.kind a ≠ .absent

/-- The invariant of the machine. Memory is in canonical form; ei_shadow exists with EI_DELAY = 1 only, and while it is set INTE is 1
and the processor is not halted (R285). -/
def State.Inv (s : State) : Prop :=
  Memory.wf s.mem ∧ (s.params.eiDelay = false → s.eiShadow = false) ∧
    (s.eiShadow = true → s.inte = true ∧ s.halted = false)

end Sys2Proof.Machine
end

