-- ==== Sys2Proof/Certificates/Slice0/Obligations.lean ====
section
/-! DEFINITION. The statements for the provers. Those about an instruction give its next state as a change of the old one, so that they
say what it writes and what it leaves; a 16-bit value is written `hi ++ lo`. -/

namespace Sys2Proof.Claims

open Machine Config

/-! ### Words the statements share -/

/-- A one-byte instruction: its byte, in both directions. -/
def Coded1 (b : Byte) (i : Instr) : Prop := encode i = [b] ∧ ∀ b2 b3, decode b b2 b3 = .ok i

/-- A two-byte instruction with an 8-bit operand. -/
def Coded2 (b : Byte) (f : Byte → Instr) : Prop := ∀ d b3, encode (f d) = [b, d] ∧ decode b d b3 = .ok (f d)

/-- A three-byte instruction with a 16-bit operand, low byte first. -/
def Coded3 (b : Byte) (f : Word → Instr) : Prop :=
  ∀ lo hi : Byte, encode (f (hi ++ lo)) = [b, lo, hi] ∧ decode b lo hi = .ok (f (hi ++ lo))

/-- The register code table of R21. -/
def regCode : Reg8 → Nat
  | .b => 0
  | .c => 1
  | .d => 2
  | .e => 3
  | .h => 4
  | .l => 5
  | .m => 6
  | .a => 7

/-- The general register that a code other than 110 names; for 110 there is none. -/
def register (r : Regs) : Reg8 → Option Byte
  | .b => some r.b
  | .c => some r.c
  | .d => some r.d
  | .e => some r.e
  | .h => some r.h
  | .l => some r.l
  | .m => none
  | .a => some r.a

/-- S, Z and P describe the byte `v` (R28 to R30). -/
def Describes (f : Flags) (v : Byte) : Prop :=
  (f.s = true ↔ 128 ≤ v.toNat) ∧ (f.z = true ↔ v.toNat = 0) ∧
    (f.p = true ↔ Even (Finset.univ.filter (fun i : Fin 8 => v.getLsbD i = true)).card)

/-- The number in a pair (R23, R24). -/
def pairNat (s : State) : PairA → Nat
  | .bc => s.regs.b.toNat * 256 + s.regs.c.toNat
  | .de => s.regs.d.toNat * 256 + s.regs.e.toNat
  | .hl => s.regs.h.toNat * 256 + s.regs.l.toNat
  | .sp => s.sp.toNat

/-- From `s` to `t` nothing but the pair `p` and PC changes. -/
def OnlyPair (s t : State) : PairA → Prop
  | .bc => t = { s with regs := { s.regs with b := t.regs.b, c := t.regs.c }, pc := t.pc }
  | .de => t = { s with regs := { s.regs with d := t.regs.d, e := t.regs.e }, pc := t.pc }
  | .hl => t = { s with regs := { s.regs with h := t.regs.h, l := t.regs.l }, pc := t.pc }
  | .sp => t = { s with sp := t.sp, pc := t.pc }

/-- The status byte of R33 as a number. -/
def statusNat (f : Flags) : Nat :=
  2 + 128 * f.s.toNat + 64 * f.z.toNat + 16 * f.ac.toNat + 4 * f.p.toNat + f.cy.toNat

/-- `s` with `first` stored at SP-1, `second` at SP-2, and SP less two (R71). -/
def stacked (s : State) (first second : Byte) : State :=
  { (s.writeByte (s.sp - 1) first).writeByte (s.sp - 2) second with sp := s.sp - 2 }

/-- `s` with the address `ret` pushed and PC at `target` (R125, R230). -/
def called (s : State) (ret target : Word) : State :=
  { stacked s (ret.extractLsb' 8 8) (ret.extractLsb' 0 8) with pc := target }

/-- `s` with PC popped: the low byte read at SP first, then the high byte at SP+1 (R250). -/
def returned (s : State) : State :=
  let lo := s.readByte s.sp
  let hi := lo.2.readByte (s.sp + 1)
  { hi.2 with sp := s.sp + 2, pc := hi.1 ++ lo.1 }

/-- Two-digit packed decimal: the number in a byte of two BCD digits. -/
def bcd (v : Byte) : Nat := v.toNat / 16 * 10 + v.toNat % 16

/-- Both halves of the byte are decimal digits. -/
def IsBcd (v : Byte) : Prop := v.toNat / 16 ≤ 9 ∧ v.toNat % 16 ≤ 9

/-- `n` bytes read one after the other from `a` upwards. -/
def readBytes (s : State) (a : Word) : Nat → List Byte × State
  | 0 => ([], s)
  | n + 1 =>
    let r := s.readByte a
    let rest := readBytes r.2 (a + 1) n
    (r.1 :: rest.1, rest.2)

/-- The environment neither resets the machine at this boundary nor makes an offer that is accepted (R273). -/
def Undisturbed (s : State) : Prop :=
  s.boundary.reset = none ∧
    (s.boundary.offer = none ∨ s.inte = false ∨ (s.params.eiDelay = true ∧ s.eiShadow = true))

/-- The environment offers the RST byte of `n` at this boundary, and the offer is accepted (R273, R285). -/
def Interrupted (s : State) (n : BitVec 3) : Prop :=
  s.boundary.reset = none ∧ s.boundary.offer = some (0b11#2 ++ n ++ 0b111#3) ∧ s.inte = true ∧
    (s.params.eiDelay = false ∨ s.eiShadow = false)

/-! ### Tables over all instructions -/

/-- The general registers that an instruction may write (R22). -/
def destinations : Instr → List Reg8
  | .inPort _ | .cma | .daa | .rlc | .rrc | .ral | .rar | .ldax _ | .lda _ => [.a]
  | .add _ | .adc _ | .sub _ | .sbb _ | .ana _ | .xra _ | .ora _ => [.a]
  | .adi _ | .aci _ | .sui _ | .sbi _ | .ani _ | .xri _ | .ori _ => [.a]
  | .inr r | .dcr r | .mvi r _ | .mov r _ => [r]
  | .pop .psw => [.a]
  | .pop .bc | .inx .bc | .dcx .bc | .lxi .bc _ => [.b, .c]
  | .pop .de | .inx .de | .dcx .de | .lxi .de _ => [.d, .e]
  | .pop .hl | .inx .hl | .dcx .hl | .lxi .hl _ | .dad _ | .xthl | .lhld _ => [.h, .l]
  | .xchg => [.d, .e, .h, .l]
  | _ => []

/-- Whether an instruction may write S, Z and P (R34). -/
def writesSzp : Instr → Bool
  | .inr _ | .dcr _ | .daa | .pop .psw => true
  | .add _ | .adc _ | .sub _ | .sbb _ | .ana _ | .xra _ | .ora _ | .cmp _ => true
  | .adi _ | .aci _ | .sui _ | .sbi _ | .ani _ | .xri _ | .ori _ | .cpi _ => true
  | _ => false

/-- Whether an instruction may write AC (R34), with AC_LOGIC at `k`. -/
def writesAc (k : AcLogic) : Instr → Bool
  | .inr _ | .dcr _ | .daa | .pop .psw => true
  | .add _ | .adc _ | .sub _ | .sbb _ | .adi _ | .aci _ | .sui _ | .sbi _ => true
  | .ana _ | .xra _ | .ora _ | .cmp _ | .ani _ | .xri _ | .ori _ | .cpi _ => k != .unaffected
  | _ => false

/-- Whether an instruction may write CY (R34). -/
def writesCy : Instr → Bool
  | .daa | .pop .psw | .dad _ | .rlc | .rrc | .ral | .rar | .stc | .cmc => true
  | .add _ | .adc _ | .sub _ | .sbb _ | .ana _ | .xra _ | .ora _ | .cmp _ => true
  | .adi _ | .aci _ | .sui _ | .sbi _ | .ani _ | .xri _ | .ori _ | .cpi _ => true
  | _ => false

/-- The condition of a conditional instruction (R96); true for every other one. -/
def condition (f : Flags) : Instr → Bool
  | .jnz _ | .cnz _ | .rnz => !f.z
  | .jz _ | .cz _ | .rz => f.z
  | .jnc _ | .cnc _ | .rnc => !f.cy
  | .jc _ | .cc _ | .rc => f.cy
  | .jpo _ | .cpo _ | .rpo => !f.p
  | .jpe _ | .cpe _ | .rpe => f.p
  | .jp _ | .cp _ | .rp => !f.s
  | .jm _ | .cm _ | .rm => f.s
  | _ => true

/-- The jumps with an address. -/
def isJump : Instr → Bool
  | .jmp _ | .jc _ | .jnc _ | .jz _ | .jnz _ | .jm _ | .jp _ | .jpe _ | .jpo _ => true
  | _ => false

/-- The calls, and RST, which is one. -/
def isCall : Instr → Bool
  | .call _ | .cc _ | .cnc _ | .cz _ | .cnz _ | .cm _ | .cp _ | .cpe _ | .cpo _ | .rst _ => true
  | _ => false

/-- The returns. -/
def isReturn : Instr → Bool
  | .ret | .rc | .rnc | .rz | .rnz | .rm | .rp | .rpe | .rpo => true
  | _ => false

/-- Whether an instruction transfers control when it runs with the status bits `f`. -/
def transfers (f : Flags) (i : Instr) : Bool :=
  i == .pchl || ((isJump i || isCall i || isReturn i) && condition f i)

/-- SP after an instruction (R25). -/
def spAfter (s : State) (i : Instr) : Word :=
  match i with
  | .push _ => s.sp - 2
  | .pop _ => s.sp + 2
  | .inx .sp => s.sp + 1
  | .dcx .sp => s.sp - 1
  | .lxi .sp d16 => d16
  | .sphl => s.regs.h ++ s.regs.l
  | i =>
    if isCall i && condition s.flags i then s.sp - 2
    else if isReturn i && condition s.flags i then s.sp + 2
    else s.sp

/-- The addresses that an instruction stores to, in the order of R67, computed from the state it starts in. -/
def stores (s : State) (i : Instr) : List Word :=
  match i with
  | .inr .m | .dcr .m | .mov .m _ | .mvi .m _ => [s.regs.hl]
  | .stax x => [s.regs.indirect x]
  | .sta addr => [addr]
  | .shld addr => [addr, addr + 1]
  | .push _ => [s.sp - 1, s.sp - 2]
  | .xthl => [s.sp, s.sp + 1]
  | i => if isCall i && condition s.flags i then [s.sp - 1, s.sp - 2] else []

/-! ### Outcomes of the accumulator operations -/

/-- `t` is `x.2`, the state after the operand byte `x.1` is read, with the sum of A, that byte and `c` in A, the five status bits
describing the addition, and PC past the `n` bytes of the instruction (R183). AC is the carry out of bit 3: the spec's decision D6, log 25. -/
def Sum (s : State) (x : Byte × State) (c : Bool) (n : Nat) (t : State) : Prop :=
  ∃ (r : Byte) (f : Flags),
    t = { x.2 with regs := { s.regs with a := r }, flags := f, pc := s.pc + BitVec.ofNat 16 n } ∧
    r.toNat = (s.regs.a.toNat + x.1.toNat + c.toNat) % 256 ∧
    (f.cy = true ↔ 256 ≤ s.regs.a.toNat + x.1.toNat + c.toNat) ∧
    (f.ac = true ↔ 16 ≤ s.regs.a.toNat % 16 + x.1.toNat % 16 + c.toNat) ∧
    Describes f r

/-- As `Sum`, for the difference of A and that byte and `c`. CY is the borrow; AC is 1 where the low halves do not borrow (D6, D22;
log 25, 30). -/
def Difference (s : State) (x : Byte × State) (c : Bool) (n : Nat) (t : State) : Prop :=
  ∃ (r : Byte) (f : Flags),
    t = { x.2 with regs := { s.regs with a := r }, flags := f, pc := s.pc + BitVec.ofNat 16 n } ∧
    (r.toNat : Int) = ((s.regs.a.toNat : Int) - x.1.toNat - c.toNat) % 256 ∧
    (f.cy = true ↔ s.regs.a.toNat < x.1.toNat + c.toNat) ∧
    (f.ac = true ↔ x.1.toNat % 16 + c.toNat ≤ s.regs.a.toNat % 16) ∧
    Describes f r

/-- AC and the count of draws after a logic or compare instruction that runs from `u`, by AC_LOGIC (R188, R192); `silicon` is what the spec
says an Intel 8080 has. -/
def AcRule (u : State) (silicon : Bool) (ac : Bool) (draws : Nat) : Prop :=
  match u.params.acLogic with
  | .unaffected => ac = u.flags.ac ∧ draws = u.draws
  | .i8080 => ac = silicon ∧ draws = u.draws
  | .draw => ac = acBit u.draws ∧ draws = u.draws + 1

/-- `t` is `x.2` with the bitwise `op` of A and the operand byte in A, CY reset, S, Z and P describing the result, AC by AC_LOGIC, and PC
past `n` bytes (R188). -/
def Logic (op : Bool → Bool → Bool) (silicon : Bool) (s : State) (x : Byte × State) (n : Nat) (t : State) : Prop :=
  ∃ (r : Byte) (f : Flags) (k : Nat),
    t = { x.2 with regs := { s.regs with a := r }, flags := f, pc := s.pc + BitVec.ofNat 16 n, draws := k } ∧
    (∀ j < 8, r.getLsbD j = op (s.regs.a.getLsbD j) (x.1.getLsbD j)) ∧
    f.cy = false ∧ Describes f r ∧ AcRule x.2 silicon f.ac k

/-- `t` is `x.2` with the status bits of the comparison of A with the operand byte, AC by AC_LOGIC, A kept, and PC past `n` bytes (R192). -/
def Comparison (s : State) (x : Byte × State) (n : Nat) (t : State) : Prop :=
  ∃ (r : Byte) (f : Flags) (k : Nat),
    t = { x.2 with flags := f, pc := s.pc + BitVec.ofNat 16 n, draws := k } ∧
    (r.toNat : Int) = ((s.regs.a.toNat : Int) - x.1.toNat) % 256 ∧
    (f.cy = true ↔ s.regs.a.toNat < x.1.toNat) ∧ (f.z = true ↔ s.regs.a = x.1) ∧
    Describes f r ∧ AcRule x.2 (decide (x.1.toNat % 16 ≤ s.regs.a.toNat % 16)) f.ac k

/-- `t` is the state after operand `r` became `v` with the status bits `f`, one byte on (R140, R141): CY is as it was. -/
def Stepped (s : State) (r : Reg8) (v : Byte) (f : Flags) (t : State) : Prop :=
  t = { (s.readOperand r).2.writeOperand r v with flags := f, pc := s.pc + 1 } ∧ f.cy = s.flags.cy ∧ Describes f v

end Sys2Proof.Claims

open Sys2Proof Sys2Proof.Machine Sys2Proof.Config Sys2Proof.Claims

/-! ## Reset, encoding, the step -/

/-- R41: PC at RESET_PC, INTE and halted 0 after reset, and the spec's default 0x0000 for RESET_PC. These values are the spec's decision D11
(log 15); ei_shadow 0 is R285. The zero registers of State.reset are the model's choice (log 4) and no part of this. -/
def Obligations.ResetLeavesTheControlState : Prop :=
  State.reset.pc = State.reset.params.resetPc ∧ State.reset.params.resetPc = 0x0000 ∧
    State.reset.inte = false ∧ State.reset.halted = false ∧ State.reset.eiShadow = false

/-- The invariant holds of the state after reset. -/
def Obligations.ResetMeetsTheInvariant : Prop := State.reset.Inv

/-- A few instruction words, one of each family, written out from the patterns of R98. -/
def Obligations.WrittenWordsDecode : Prop :=
  decode 0b11001111 0 0 = .ok (.rst 1) ∧ decode 0b00110100 0 0 = .ok (.inr .m) ∧
    decode 0b11110101 0 0 = .ok (.push .psw) ∧ decode 0b00111001 0 0 = .ok (.dad .sp) ∧
    decode 0b00011111 0 0 = .ok .rar ∧ decode 0b01111011 0 0 = .ok (.mov .a .e) ∧
    decode 0b01110110 0 0 = .ok .hlt ∧ decode 0b00100010 0x45 0x75 = .ok (.shld 0x7545) ∧
    decode 0b11011110 0x01 0 = .ok (.sbi 0x01) ∧ decode 0b00110001 0x00 0x01 = .ok (.lxi .sp 0x0100) ∧
    decode 0b11110100 0x00 0x30 = .ok (.cp 0x3000) ∧ decode 0b11101000 0 0 = .ok .rpe

/-- R90, R99: of the 256 first bytes 244 begin an instruction: 200 one of one byte, 18 one of two, 26 one of three. -/
def Obligations.FirstByteCounts : Prop :=
  ∀ b2 b3 : Byte,
    let begins (n : Nat) (k : Nat) : Bool :=
      match decode (BitVec.ofNat 8 k) b2 b3 with
      | .ok i => i.length == n
      | .error _ => false
    (List.range 256).countP (begins 1) = 200 ∧ (List.range 256).countP (begins 2) = 18 ∧
      (List.range 256).countP (begins 3) = 26

/-- R104: the decoder answers an instruction for every first byte but the twelve, and rejects those by name. -/
def Obligations.TheTwelveUndefinedFirstBytes : Prop :=
  ∀ b1 b2 b3 : Byte,
    if b1 ∈ ([0x08, 0x10, 0x18, 0x20, 0x28, 0x30, 0x38, 0xCB, 0xD9, 0xDD, 0xED, 0xFD] : List Byte) then
      decode b1 b2 b3 = .error (.undefinedOpcode b1)
    else ∃ i, decode b1 b2 b3 = .ok i

/-- Decoding the bytes of a well-formed instruction, whatever follows them, gives the instruction back (all 78, every operand). -/
def Obligations.DecodeInvertsEncode : Prop :=
  ∀ (i : Instr) (b1 b2 b3 : Byte), i.WellFormed → encode i <+: [b1, b2, b3] → decode b1 b2 b3 = .ok i

/-- What the decoder answers is well formed, and its bytes are the first bytes of those decoded (R102: no two encodings of one
instruction). -/
def Obligations.EncodeInvertsDecode : Prop :=
  ∀ (b1 b2 b3 : Byte) (i : Instr), decode b1 b2 b3 = .ok i →
    i.WellFormed ∧ i.length = instrLength b1 ∧ encode i = [b1, b2, b3].take i.length

/-- R40: with memory at the bytes of the instruction, a step of the running machine is `exec` of the instruction that the bytes at PC decode to,
at the state with the boundary taken off the environment's list and ei_shadow 0 (log 14). -/
def Obligations.StepRunsTheDecodedInstruction : Prop :=
  ∀ (s : State) (i : Instr), s.halted = false → Undisturbed s →
    decodeUnder s.params (Memory.read s.mem s.pc) (Memory.read s.mem (s.pc + 1)) (Memory.read s.mem (s.pc + 2)) = .ok i →
    (∀ k < i.length, s.present (s.pc + BitVec.ofNat 16 k)) →
    step s = exec i { s with env := s.env.tail, eiShadow := false }

/-- R40, R67, R69: the same for every MemMap. The bytes are read in order from PC up, as many as the instruction has; a byte where there is no
memory is a free value, and counted. -/
def Obligations.StepRunsTheBytesItReads : Prop :=
  ∀ (s : State) (i : Instr), let r := readBytes s s.pc i.length
    s.halted = false → Undisturbed s → decodeUnder s.params (r.1.getD 0 0) (r.1.getD 1 0) (r.1.getD 2 0) = .ok i →
    step s = exec i { r.2 with env := s.env.tail, eiShadow := false }

/-- R104, R24: a step at a first byte that the parameters refuse is refused under that reason's name. The first byte is the one that the read at PC
answers, a free value where there is no memory (log 8). -/
def Obligations.StepRefusesWhatTheParametersRefuse : Prop :=
  ∀ s : State, let b := (s.readByte s.pc).1
    s.halted = false → Undisturbed s →
    (s.params.gkFamily = .refuse →
      b ∈ ([0x01, 0x11, 0x21, 0x31, 0x06, 0x0E, 0x16, 0x1E, 0x26, 0x2E, 0x36, 0x3E,
        0xC6, 0xCE, 0xD6, 0xDE, 0xE6, 0xEE, 0xF6, 0xFE, 0xDB, 0xD3] : List Byte) →
      step s = .refused (.rejected (.notDescribed b))) ∧
    (s.params.rp11Arith = .refuse → b ∈ ([0x39, 0x33, 0x3B] : List Byte) →
      step s = .refused (.rejected (.pairCodeRefused b))) ∧
    (s.params.undefOpcode = .refuse →
      b ∈ ([0x08, 0x10, 0x18, 0x20, 0x28, 0x30, 0x38, 0xCB, 0xD9, 0xDD, 0xED, 0xFD] : List Byte) →
      step s = .refused (.rejected (.undefinedOpcode b)))

/-- R104: with UNDEF_OPCODE = i8080_alias the twelve bytes run as NOP, JMP, RET and CALL. -/
def Obligations.UndefinedBytesRunAsAliases : Prop :=
  ∀ s : State, s.halted = false → Undisturbed s → (∀ a, s.present a) → s.params.undefOpcode = .i8080Alias →
    let b := Memory.read s.mem s.pc
    let addr : Word := Memory.read s.mem (s.pc + 2) ++ Memory.read s.mem (s.pc + 1)
    let u : State := { s with env := s.env.tail, eiShadow := false }
    (b ∈ ([0x08, 0x10, 0x18, 0x20, 0x28, 0x30, 0x38] : List Byte) → step s = exec .nop u) ∧
    (b = 0xCB → step s = exec (.jmp addr) u) ∧
    (b = 0xD9 → step s = exec .ret u) ∧
    (b ∈ ([0xDD, 0xED, 0xFD] : List Byte) → step s = exec (.call addr) u)

/-- R76: a store is seen by the very next fetch. STA writes the byte of a one-byte instruction right behind itself, and the next step runs it. -/
def Obligations.StoredByteIsFetchedNext : Prop :=
  ∀ (s : State) (i : Instr), s.halted = false → Undisturbed s → s.kind (s.pc + 3) = .ram →
    encode i = [s.regs.a] → decodeUnder s.params s.regs.a 0 0 = .ok i →
    ∃ t, exec (.sta (s.pc + 3)) s = .next t ∧ t.pc = s.pc + 3 ∧
      step t = exec i { t with env := t.env.tail, eiShadow := false }

/-- Every step keeps the invariant. -/
def Obligations.StepKeepsTheInvariant : Prop := ∀ s t : State, s.Inv → step s = .next t → t.Inv

/-! ## All instructions: completion and frames -/

/-- R270, R26: every instruction completes, from every state, and leaves PC at `next` unless it transfers control. -/
def Obligations.EveryInstructionCompletes : Prop :=
  ∀ (i : Instr) (s : State), ∃ t, exec i s = .next t ∧
    (transfers s.flags i = false → t.pc = s.pc + BitVec.ofNat 16 i.length)

/-- R22: an instruction changes no general register but its destinations. -/
def Obligations.RegisterFrame : Prop :=
  ∀ (i : Instr) (s t : State), exec i s = .next t →
    ∀ r, r ∉ destinations i → register t.regs r = register s.regs r

/-- R25: what each instruction does to SP. -/
def Obligations.StackPointerAfterEachInstruction : Prop :=
  ∀ (i : Instr) (s : State), ∃ t, exec i s = .next t ∧ t.sp = spAfter s i

/-- R34: an instruction changes no status bit that its row does not name. -/
def Obligations.StatusBitFrame : Prop :=
  ∀ (i : Instr) (s t : State), exec i s = .next t →
    (writesSzp i = false → t.flags.s = s.flags.s ∧ t.flags.z = s.flags.z ∧ t.flags.p = s.flags.p) ∧
    (writesAc s.params.acLogic i = false → t.flags.ac = s.flags.ac) ∧
    (writesCy i = false → t.flags.cy = s.flags.cy)

/-- R67: an instruction changes no byte of memory but those it stores to, and of those only ram (R69). -/
def Obligations.MemoryFrame : Prop :=
  ∀ (i : Instr) (s t : State), exec i s = .next t →
    ∀ a, (a ∉ stores s i ∨ s.kind a ≠ .ram) → Memory.read t.mem a = Memory.read s.mem a

/-- R35, R36, R72, R285: INTE is changed by EI and DI only, halted by HLT, ei_shadow by EI, the output trace by OUT, the count of port reads by IN;
no instruction changes the launch parameters or the environment's coming moves. -/
def Obligations.ControlFrame : Prop :=
  ∀ (i : Instr) (s t : State), exec i s = .next t →
    t.params = s.params ∧ t.env = s.env ∧
    (i ≠ .ei → i ≠ .di → t.inte = s.inte) ∧ (i ≠ .hlt → t.halted = s.halted) ∧
    (i ≠ .ei → t.eiShadow = s.eiShadow) ∧
    ((∀ p, i ≠ .outPort p) → t.outTrace = s.outTrace) ∧ ((∀ p, i ≠ .inPort p) → t.ioReads = s.ioReads)

/-- R69: over a whole run, resets and power cycles among its steps, the launch parameters stay and no byte outside ram ever changes. -/
def Obligations.BytesOutsideRamNeverChange : Prop :=
  ∀ (n : Nat) (s t : State), s.runsTo n t →
    t.params = s.params ∧ ∀ a, s.kind a ≠ .ram → Memory.read t.mem a = Memory.read s.mem a

/-- R72: a step appends at most one pair to the output trace, with the byte in A. -/
def Obligations.OutputsAreAppended : Prop :=
  ∀ s t : State, step s = .next t →
    t.outTrace = s.outTrace ∨ ∃ p, t.outTrace = s.outTrace ++ [(p, s.regs.a)]

/-- R308: in a machine with memory everywhere, AC_LOGIC not draw, and no reset, a run does not depend on the free values drawn: started with another
count of draws, it ends in the same state but for that count. (The bytes that IN answers are counted apart, log 6.) -/
def Obligations.RunsDoNotDependOnDraws : Prop :=
  ∀ (n : Nat) (s t : State) (k : Nat), (∀ a, s.present a) → s.params.acLogic ≠ .draw → s.noReset → s.runsTo n t →
    t.draws = s.draws ∧ ({ s with draws := k } : State).runsTo n { t with draws := k }

/-! ## Memory, operands, the status byte -/

/-- R62, R63, R69: a read of ram or rom answers the byte of memory and changes nothing; a write to ram is what the next read of that address answers, and
leaves every other address and everything else; a write to rom or absent memory changes nothing (rom and absent memory are the spec's decision D10). That a
read of absent memory counts one draw and changes nothing else is the model's choice (log 8). -/
def Obligations.ReadsAndWritesOfOneByte : Prop :=
  ∀ (s : State) (a b : Word) (v : Byte),
    (s.kind a ≠ .absent → s.readByte a = (Memory.read s.mem a, s)) ∧
    (s.kind a = .absent → (s.readByte a).2 = { s with draws := s.draws + 1 }) ∧
    (s.kind a = .ram →
      (s.writeByte a v).readByte a = (v, s.writeByte a v) ∧
      (b ≠ a → Memory.read (s.writeByte a v).mem b = Memory.read s.mem b) ∧
      s.writeByte a v = { s with mem := (s.writeByte a v).mem }) ∧
    (s.kind a ≠ .ram → s.writeByte a v = s)

/-- Two memories in canonical form that read the same everywhere are the same data. (The canonical form is the model's choice, log 5.) -/
def Obligations.CanonicalMemoryIsUnique : Prop :=
  ∀ m m' : Memory, Memory.wf m → Memory.wf m' → (∀ a, Memory.read m a = Memory.read m' a) → m = m'

/-- R64, R65: a 16-bit store puts the low byte at the address and the high byte at the next one, modulo 2^16, and a 16-bit read of the same address
answers the value stored. -/
def Obligations.SixteenBitTransfers : Prop :=
  ∀ (s : State) (a v : Word), s.kind a = .ram → s.kind (a + 1) = .ram →
    (s.writeWord a v).readWord a = (v, s.writeWord a v) ∧
    (Memory.read (s.writeWord a v).mem a).toNat = v.toNat % 256 ∧
    (Memory.read (s.writeWord a v).mem (a + 1)).toNat = v.toNat / 256 ∧
    ∀ b, b ≠ a → b ≠ a + 1 → Memory.read (s.writeWord a v).mem b = Memory.read s.mem b

/-- R21: a register operand is that register and no other; M is the byte at the address in H and L. -/
def Obligations.OperandForms : Prop :=
  ∀ (s : State) (r : Reg8) (v : Byte),
    (∀ w, register s.regs r = some w → s.readOperand r = (w, s)) ∧
    (r ≠ .m → register (s.writeOperand r v).regs r = some v ∧
      (∀ q, q ≠ r → register (s.writeOperand r v).regs q = register s.regs q) ∧
      s.writeOperand r v = { s with regs := (s.writeOperand r v).regs }) ∧
    s.readOperand .m = s.readByte (s.regs.h ++ s.regs.l) ∧
    s.writeOperand .m v = s.writeByte (s.regs.h ++ s.regs.l) v

/-- R33: the layout of the Status Bit Register, its 32 values, and the loading of a byte, which ignores bits 5, 3 and 1. -/
def Obligations.StatusByteLayout : Prop :=
  ∀ (f g : Flags) (v : Byte),
    f.toByte.toNat = statusNat f ∧ (f.toByte = g.toByte → f = g) ∧
    (Flags.ofByte v).s = v.getLsbD 7 ∧ (Flags.ofByte v).z = v.getLsbD 6 ∧ (Flags.ofByte v).ac = v.getLsbD 4 ∧
    (Flags.ofByte v).p = v.getLsbD 2 ∧ (Flags.ofByte v).cy = v.getLsbD 0 ∧
    Flags.ofByte (v ||| 0b00101010) = Flags.ofByte v ∧ Flags.ofByte (v &&& 0b11010101) = Flags.ofByte v

/-! ## Command instructions -/

/-- IN and OUT (R120, R121; general knowledge of the spec, D2, D17; log 6, 7, 11). The byte that IN loads is a free value. -/
def Obligations.InputAndOutput : Prop :=
  Coded2 0xDB .inPort ∧ Coded2 0xD3 .outPort ∧ ∀ (s : State) (p : Byte),
    exec (.inPort p) s =
      .next { s with regs := { s.regs with a := ioRead p s.ioReads }, ioReads := s.ioReads + 1, pc := s.pc + 2 } ∧
    exec (.outPort p) s = .next { s with outTrace := s.outTrace ++ [(p, s.regs.a)], pc := s.pc + 2 }

/-- EI (R122, R285): INTE is set, and ei_shadow with EI_DELAY = 1. An RST offered at the boundary right after EI is accepted with EI_DELAY = 0, and has no
effect with EI_DELAY = 1 (D13; log 14). -/
def Obligations.EnableInterrupts : Prop :=
  Coded1 0xFB .ei ∧ ∀ (s : State) (n : BitVec 3) (rest : List Boundary),
    let t : State := { s with inte := true, eiShadow := s.params.eiDelay, pc := s.pc + 1 }
    let offered : State := { t with env := { reset := none, offer := some (0b11#2 ++ n ++ 0b111#3) } :: rest }
    exec .ei s = .next t ∧
    (s.params.eiDelay = false →
      step offered = .next { called { t with env := rest } t.pc (8 * n.setWidth 16) with inte := false, halted := false }) ∧
    (s.params.eiDelay = true → step offered = step { t with env := Boundary.quiet :: rest })

/-- R123, R124: DI resets INTE, and no offer is accepted at the boundary after it; HLT steps PC and stops the machine, in which nothing is fetched and no state
changes until an interrupt is accepted or the machine is reset. HLT reads no memory, though its byte fits the pattern of MOV M,M. -/
def Obligations.DisableAndHalt : Prop :=
  Coded1 0xF3 .di ∧ Coded1 0x76 .hlt ∧ ∀ (s : State) (e : List Boundary),
    exec .di s = .next { s with inte := false, pc := s.pc + 1 } ∧
    ({ s with inte := false, pc := s.pc + 1, env := e } : State).accepts = false ∧
    exec .hlt s = .next { s with pc := s.pc + 1, halted := true } ∧
    (Undisturbed { s with pc := s.pc + 1, halted := true, env := e } →
      step { s with pc := s.pc + 1, halted := true, env := e } =
        .next { s with pc := s.pc + 1, halted := true, env := e.tail })

/-- RST (R125): the address after it is pushed and control goes to 8 * n. The order of the two bytes is the spec's decision D16 (log 28). -/
def Obligations.Restart : Prop :=
  ∀ n : BitVec 3, Coded1 (0b11#2 ++ n ++ 0b111#3) (.rst n) ∧
    ∀ s : State, ∃ t, exec (.rst n) s = .next t ∧ t = called s (s.pc + 1) t.pc ∧ t.pc.toNat = 8 * n.toNat

/-- R126, R127: CMC complements CY and STC sets it. That STC then CMC, or ANA A, or ORA A, resets it is an inference that R126 marks as the spec's own ("derived"),
by R127, R189 and R191; of ANA and ORA only operand A is spoken of here. -/
def Obligations.CarryInstructions : Prop :=
  Coded1 0x3F .cmc ∧ Coded1 0x37 .stc ∧ ∀ s : State,
    exec .cmc s = .next { s with flags := { s.flags with cy := !s.flags.cy }, pc := s.pc + 1 } ∧
    exec .stc s = .next { s with flags := { s.flags with cy := true }, pc := s.pc + 1 } ∧
    (∃ t u, exec .stc s = .next t ∧ exec .cmc t = .next u ∧ u.flags.cy = false) ∧
    (∃ t, exec (.ana .a) s = .next t ∧ t.regs.a = s.regs.a ∧ t.flags.cy = false) ∧
    (∃ t, exec (.ora .a) s = .next t ∧ t.regs.a = s.regs.a ∧ t.flags.cy = false)

/-- R128, R142: NOP changes PC only; CMA complements each bit of A and no status bit; CMA then INR A negates A, and CMA twice restores it. -/
def Obligations.NopAndComplement : Prop :=
  Coded1 0x00 .nop ∧ Coded1 0x2F .cma ∧ ∀ s : State,
    exec .nop s = .next { s with pc := s.pc + 1 } ∧
    (∃ r : Byte, exec .cma s = .next { s with regs := { s.regs with a := r }, pc := s.pc + 1 } ∧
      (∀ j < 8, r.getLsbD j = !s.regs.a.getLsbD j)) ∧
    (∃ t u, exec .cma s = .next t ∧ exec .cma t = .next u ∧ u.regs = s.regs) ∧
    ∃ t u, exec .cma s = .next t ∧ exec (.inr .a) t = .next u ∧ (u.regs.a.toNat + s.regs.a.toNat) % 256 = 0

/-! ## Single register instructions -/

/-- INR and DCR (R140, R141), for every operand form. AC is the spec's decision D6 (log 25). -/
def Obligations.IncrementAndDecrement : Prop :=
  ∀ (r : Reg8) (s : State), let v := (s.readOperand r).1
    Coded1 (BitVec.ofNat 8 (8 * regCode r + 4)) (.inr r) ∧ Coded1 (BitVec.ofNat 8 (8 * regCode r + 5)) (.dcr r) ∧
    (∃ t w f, exec (.inr r) s = .next t ∧ Stepped s r w f t ∧ w.toNat = (v.toNat + 1) % 256 ∧
      (f.ac = true ↔ v.toNat % 16 = 15)) ∧
    ∃ t w f, exec (.dcr r) s = .next t ∧ Stepped s r w f t ∧ w.toNat = (v.toNat + 255) % 256 ∧
      (f.ac = true ↔ v.toNat % 16 ≠ 0)

/-- DAA (R143; the spec's decision D8, log 26): 6 is added where the low half is over 9 or AC is set, 0x60 where A is over 0x99 or CY is set; CY says the
second, AC is the carry of the first out of bit 3. -/
def Obligations.DecimalAdjust : Prop :=
  Coded1 0x27 .daa ∧ ∀ s : State,
    let a := s.regs.a.toNat
    let lo : Bool := decide (9 < a % 16) || s.flags.ac
    let hi : Bool := decide (0x99 < a) || s.flags.cy
    ∃ (r : Byte) (f : Flags),
      exec .daa s = .next { s with regs := { s.regs with a := r }, flags := f, pc := s.pc + 1 } ∧
      r.toNat = (a + 6 * lo.toNat + 0x60 * hi.toNat) % 256 ∧
      f.cy = hi ∧ (f.ac = true ↔ lo = true ∧ 10 ≤ a % 16) ∧ Describes f r

/-- R32, R143: the reason of DAA. The sum of two bytes of two BCD digits, by ADD or by ADC with a carry in, followed by DAA, is the BCD sum, with CY the
decimal carry (D6, D8). -/
def Obligations.BcdAddition : Prop :=
  ∀ (s : State) (r : Reg8), let v := (s.readOperand r).1
    IsBcd s.regs.a → IsBcd v →
    (∃ t u, exec (.add r) s = .next t ∧ exec .daa t = .next u ∧ IsBcd u.regs.a ∧
      bcd u.regs.a = (bcd s.regs.a + bcd v) % 100 ∧ (u.flags.cy = true ↔ 100 ≤ bcd s.regs.a + bcd v)) ∧
    ∃ t u, exec (.adc r) s = .next t ∧ exec .daa t = .next u ∧ IsBcd u.regs.a ∧
      bcd u.regs.a = (bcd s.regs.a + bcd v + s.flags.cy.toNat) % 100 ∧
      (u.flags.cy = true ↔ 100 ≤ bcd s.regs.a + bcd v + s.flags.cy.toNat)

/-! ## Register pair instructions -/

/-- PUSH and POP (R150, R151), for the four pairs and both values of PSW_ORDER (D5, log 10; D25, log 29). -/
def Obligations.PushAndPop : Prop :=
  Coded1 0xC5 (.push .bc) ∧ Coded1 0xD5 (.push .de) ∧ Coded1 0xE5 (.push .hl) ∧ Coded1 0xF5 (.push .psw) ∧
  Coded1 0xC1 (.pop .bc) ∧ Coded1 0xD1 (.pop .de) ∧ Coded1 0xE1 (.pop .hl) ∧ Coded1 0xF1 (.pop .psw) ∧
  ∀ s : State,
    let f : Byte := BitVec.ofNat 8 (statusNat s.flags)
    let lo := s.readByte s.sp
    let hi := lo.2.readByte (s.sp + 1)
    let status (v : Byte) : Flags :=
      { s := v.getLsbD 7, z := v.getLsbD 6, ac := v.getLsbD 4, p := v.getLsbD 2, cy := v.getLsbD 0 }
    exec (.push .bc) s = .next { stacked s s.regs.b s.regs.c with pc := s.pc + 1 } ∧
    exec (.push .de) s = .next { stacked s s.regs.d s.regs.e with pc := s.pc + 1 } ∧
    exec (.push .hl) s = .next { stacked s s.regs.h s.regs.l with pc := s.pc + 1 } ∧
    (s.params.pswOrder = .flagsHigh → exec (.push .psw) s = .next { stacked s f s.regs.a with pc := s.pc + 1 }) ∧
    (s.params.pswOrder = .aHigh → exec (.push .psw) s = .next { stacked s s.regs.a f with pc := s.pc + 1 }) ∧
    exec (.pop .bc) s =
      .next { hi.2 with regs := { s.regs with b := hi.1, c := lo.1 }, sp := s.sp + 2, pc := s.pc + 1 } ∧
    exec (.pop .de) s =
      .next { hi.2 with regs := { s.regs with d := hi.1, e := lo.1 }, sp := s.sp + 2, pc := s.pc + 1 } ∧
    exec (.pop .hl) s =
      .next { hi.2 with regs := { s.regs with h := hi.1, l := lo.1 }, sp := s.sp + 2, pc := s.pc + 1 } ∧
    (s.params.pswOrder = .flagsHigh → exec (.pop .psw) s =
      .next { hi.2 with regs := { s.regs with a := lo.1 }, flags := status hi.1, sp := s.sp + 2, pc := s.pc + 1 }) ∧
    (s.params.pswOrder = .aHigh → exec (.pop .psw) s =
      .next { hi.2 with regs := { s.regs with a := hi.1 }, flags := status lo.1, sp := s.sp + 2, pc := s.pc + 1 })

/-- R150, R151: PUSH then POP of the same pair, with ram under the stack, restores everything but PC and the two stack bytes. -/
def Obligations.PushThenPopRestores : Prop :=
  ∀ (p : PairS) (s : State), s.kind (s.sp - 1) = .ram → s.kind (s.sp - 2) = .ram →
    ∃ t, exec (.push p) s = .next t ∧ exec (.pop p) t = .next { s with mem := t.mem, pc := s.pc + 2 } ∧
      ∀ a, a ≠ s.sp - 1 → a ≠ s.sp - 2 → Memory.read t.mem a = Memory.read s.mem a

/-- DAD (R152): HL plus the pair, modulo 2^16, with CY the carry out. Pair code 11 is SP by the spec's decision D4 (log 13). -/
def Obligations.DoubleAdd : Prop :=
  Coded1 0x09 (.dad .bc) ∧ Coded1 0x19 (.dad .de) ∧ Coded1 0x29 (.dad .hl) ∧ Coded1 0x39 (.dad .sp) ∧
  ∀ (p : PairA) (s : State), ∃ (h l : Byte) (c : Bool),
    exec (.dad p) s =
      .next { s with regs := { s.regs with h := h, l := l }, flags := { s.flags with cy := c }, pc := s.pc + 1 } ∧
    h.toNat * 256 + l.toNat = (pairNat s .hl + pairNat s p) % 65536 ∧ (c = true ↔ 65536 ≤ pairNat s .hl + pairNat s p)

/-- INX, DCX and SPHL (R153, R154, R157), modulo 2^16, and no status bit. Pair code 11 is SP by D4 (log 13); the byte order of the pairs is D19 and the
status bits of SPHL D18 (log 29). -/
def Obligations.PairsCountAndLoadSp : Prop :=
  Coded1 0x03 (.inx .bc) ∧ Coded1 0x13 (.inx .de) ∧ Coded1 0x23 (.inx .hl) ∧ Coded1 0x33 (.inx .sp) ∧
  Coded1 0x0B (.dcx .bc) ∧ Coded1 0x1B (.dcx .de) ∧ Coded1 0x2B (.dcx .hl) ∧ Coded1 0x3B (.dcx .sp) ∧ Coded1 0xF9 .sphl ∧
  ∀ (p : PairA) (s : State),
    (∃ t, exec (.inx p) s = .next t ∧ t.pc = s.pc + 1 ∧ pairNat t p = (pairNat s p + 1) % 65536 ∧ OnlyPair s t p) ∧
    (∃ t, exec (.dcx p) s = .next t ∧ t.pc = s.pc + 1 ∧ pairNat t p = (pairNat s p + 65535) % 65536 ∧ OnlyPair s t p) ∧
    exec .sphl s = .next { s with sp := s.regs.h ++ s.regs.l, pc := s.pc + 1 }

/-- R155, R156: XCHG exchanges H with D and L with E; XTHL exchanges L with the byte at SP and H with the byte at SP+1, both reads before both writes, SP
unchanged. XCHG twice restores the registers. -/
def Obligations.Exchanges : Prop :=
  Coded1 0xEB .xchg ∧ Coded1 0xE3 .xthl ∧ ∀ s : State,
    let lo := s.readByte s.sp
    let hi := lo.2.readByte (s.sp + 1)
    exec .xchg s =
      .next { s with regs := { s.regs with h := s.regs.d, l := s.regs.e, d := s.regs.h, e := s.regs.l }, pc := s.pc + 1 } ∧
    (∃ t u, exec .xchg s = .next t ∧ exec .xchg t = .next u ∧ u.regs = s.regs) ∧
    exec .xthl s =
      .next { (hi.2.writeByte s.sp s.regs.l).writeByte (s.sp + 1) s.regs.h with
        regs := { s.regs with h := hi.1, l := lo.1 }, pc := s.pc + 1 }

/-! ## Rotate instructions -/

/-- R170 to R173, bit by bit: RLC and RRC rotate the eight bits of A, RAL and RAR the nine of A and CY; CY takes the bit rotated out. -/
def Obligations.Rotates : Prop :=
  Coded1 0x07 .rlc ∧ Coded1 0x0F .rrc ∧ Coded1 0x17 .ral ∧ Coded1 0x1F .rar ∧ ∀ s : State, let a := s.regs.a
    (∃ r : Byte, exec .rlc s =
        .next { s with regs := { s.regs with a := r }, flags := { s.flags with cy := a.getLsbD 7 }, pc := s.pc + 1 } ∧
      r.getLsbD 0 = a.getLsbD 7 ∧ ∀ j < 7, r.getLsbD (j + 1) = a.getLsbD j) ∧
    (∃ r : Byte, exec .rrc s =
        .next { s with regs := { s.regs with a := r }, flags := { s.flags with cy := a.getLsbD 0 }, pc := s.pc + 1 } ∧
      r.getLsbD 7 = a.getLsbD 0 ∧ ∀ j < 7, r.getLsbD j = a.getLsbD (j + 1)) ∧
    (∃ r : Byte, exec .ral s =
        .next { s with regs := { s.regs with a := r }, flags := { s.flags with cy := a.getLsbD 7 }, pc := s.pc + 1 } ∧
      r.getLsbD 0 = s.flags.cy ∧ ∀ j < 7, r.getLsbD (j + 1) = a.getLsbD j) ∧
    (∃ r : Byte, exec .rar s =
        .next { s with regs := { s.regs with a := r }, flags := { s.flags with cy := a.getLsbD 0 }, pc := s.pc + 1 } ∧
      r.getLsbD 7 = s.flags.cy ∧ ∀ j < 7, r.getLsbD j = a.getLsbD (j + 1))

/-! ## Data transfer instructions -/

/-- R180: MOV copies the source operand to the destination operand; M is the address H and L hold when it starts. MOV of a register to itself changes nothing
but PC. The one pair of codes that is no MOV is M,M. -/
def Obligations.Move : Prop :=
  ¬ (Instr.mov .m .m).WellFormed ∧ ∀ dst src : Reg8, (dst, src) ≠ (.m, .m) →
    Coded1 (BitVec.ofNat 8 (64 + 8 * regCode dst + regCode src)) (.mov dst src) ∧ ∀ s : State,
      let x := s.readOperand src
      exec (.mov dst src) s = .next { x.2.writeOperand dst x.1 with pc := s.pc + 1 } ∧
      (dst = src → exec (.mov dst src) s = .next { s with pc := s.pc + 1 })

/-- STAX and LDAX (R181, R182), for B,C and D,E; which register is the high byte is the spec's decision D19 (log 29). -/
def Obligations.IndirectAccumulatorTransfers : Prop :=
  Coded1 0x02 (.stax .bc) ∧ Coded1 0x12 (.stax .de) ∧ Coded1 0x0A (.ldax .bc) ∧ Coded1 0x1A (.ldax .de) ∧ ∀ s : State,
    let bc := s.readByte (s.regs.b ++ s.regs.c)
    let de := s.readByte (s.regs.d ++ s.regs.e)
    exec (.stax .bc) s = .next { s.writeByte (s.regs.b ++ s.regs.c) s.regs.a with pc := s.pc + 1 } ∧
    exec (.stax .de) s = .next { s.writeByte (s.regs.d ++ s.regs.e) s.regs.a with pc := s.pc + 1 } ∧
    exec (.ldax .bc) s = .next { bc.2 with regs := { s.regs with a := bc.1 }, pc := s.pc + 1 } ∧
    exec (.ldax .de) s = .next { de.2 with regs := { s.regs with a := de.1 }, pc := s.pc + 1 }

/-- R193, R194: STA stores A at the address in bytes 2 and 3, and LDA loads A from it. -/
def Obligations.DirectAccumulatorTransfers : Prop :=
  Coded3 0x32 .sta ∧ Coded3 0x3A .lda ∧ ∀ (s : State) (addr : Word), let x := s.readByte addr
    exec (.sta addr) s = .next { s.writeByte addr s.regs.a with pc := s.pc + 3 } ∧
    exec (.lda addr) s = .next { x.2 with regs := { s.regs with a := x.1 }, pc := s.pc + 3 }

/-- R195, R196: SHLD stores L at the address in bytes 2 and 3 and H at the next one, modulo 2^16; LHLD loads them from there. -/
def Obligations.DirectHLTransfers : Prop :=
  Coded3 0x22 .shld ∧ Coded3 0x2A .lhld ∧ ∀ (s : State) (addr : Word),
    let lo := s.readByte addr
    let hi := lo.2.readByte (addr + 1)
    exec (.shld addr) s =
      .next { (s.writeByte addr s.regs.l).writeByte (addr + 1) s.regs.h with pc := s.pc + 3 } ∧
    exec (.lhld addr) s = .next { hi.2 with regs := { s.regs with h := hi.1, l := lo.1 }, pc := s.pc + 3 }

/-- ADD, ADC, ADI, ACI (R184, R185, R212, R213), in the arithmetic of numbers, for every operand form. -/
def Obligations.Additions : Prop :=
  Coded2 0xC6 .adi ∧ Coded2 0xCE .aci ∧ ∀ (s : State) (r : Reg8) (d8 : Byte),
    Coded1 (BitVec.ofNat 8 (0x80 + regCode r)) (.add r) ∧ Coded1 (BitVec.ofNat 8 (0x88 + regCode r)) (.adc r) ∧
    (∃ t, exec (.add r) s = .next t ∧ Sum s (s.readOperand r) false 1 t) ∧
    (∃ t, exec (.adc r) s = .next t ∧ Sum s (s.readOperand r) s.flags.cy 1 t) ∧
    (∃ t, exec (.adi d8) s = .next t ∧ Sum s (d8, s) false 2 t) ∧
    (∃ t, exec (.aci d8) s = .next t ∧ Sum s (d8, s) s.flags.cy 2 t)

/-- SUB, SBB, SUI, SBI (R186, R187, R214, R215), in the arithmetic of numbers, for every operand form. -/
def Obligations.Subtractions : Prop :=
  Coded2 0xD6 .sui ∧ Coded2 0xDE .sbi ∧ ∀ (s : State) (r : Reg8) (d8 : Byte),
    Coded1 (BitVec.ofNat 8 (0x90 + regCode r)) (.sub r) ∧ Coded1 (BitVec.ofNat 8 (0x98 + regCode r)) (.sbb r) ∧
    (∃ t, exec (.sub r) s = .next t ∧ Difference s (s.readOperand r) false 1 t) ∧
    (∃ t, exec (.sbb r) s = .next t ∧ Difference s (s.readOperand r) s.flags.cy 1 t) ∧
    (∃ t, exec (.sui d8) s = .next t ∧ Difference s (d8, s) false 2 t) ∧
    (∃ t, exec (.sbi d8) s = .next t ∧ Difference s (d8, s) s.flags.cy 2 t)

/-- ANA, XRA, ORA, ANI, XRI, ORI (R189 to R191, R216 to R218), bit by bit, for every operand form and every value of AC_LOGIC (D7, log 9). -/
def Obligations.LogicOperations : Prop :=
  Coded2 0xE6 .ani ∧ Coded2 0xEE .xri ∧ Coded2 0xF6 .ori ∧ ∀ (s : State) (r : Reg8) (d8 : Byte),
    let x := s.readOperand r
    let both (v : Byte) : Bool := s.regs.a.getLsbD 3 || v.getLsbD 3
    Coded1 (BitVec.ofNat 8 (0xA0 + regCode r)) (.ana r) ∧ Coded1 (BitVec.ofNat 8 (0xA8 + regCode r)) (.xra r) ∧
    Coded1 (BitVec.ofNat 8 (0xB0 + regCode r)) (.ora r) ∧
    (∃ t, exec (.ana r) s = .next t ∧ Logic and (both x.1) s x 1 t) ∧
    (∃ t, exec (.xra r) s = .next t ∧ Logic xor false s x 1 t) ∧
    (∃ t, exec (.ora r) s = .next t ∧ Logic or false s x 1 t) ∧
    (∃ t, exec (.ani d8) s = .next t ∧ Logic and (both d8) s (d8, s) 2 t) ∧
    (∃ t, exec (.xri d8) s = .next t ∧ Logic xor false s (d8, s) 2 t) ∧
    (∃ t, exec (.ori d8) s = .next t ∧ Logic or false s (d8, s) 2 t)

/-- CMP, CPI (R192, R219): A is kept; Z says that the bytes are equal and CY that the operand is the greater (D7, log 9; D22, log 30). -/
def Obligations.Comparisons : Prop :=
  Coded2 0xFE .cpi ∧ ∀ (s : State) (r : Reg8) (d8 : Byte),
    Coded1 (BitVec.ofNat 8 (0xB8 + regCode r)) (.cmp r) ∧
    (∃ t, exec (.cmp r) s = .next t ∧ Comparison s (s.readOperand r) 1 t) ∧
    (∃ t, exec (.cpi d8) s = .next t ∧ Comparison s (d8, s) 2 t)

/-! ## Immediate loads -/

/-- LXI and MVI (R210, R211; general knowledge of the spec, D2, log 11): the pair becomes the 16-bit datum, the operand the 8-bit one. -/
def Obligations.ImmediateLoads : Prop :=
  Coded3 0x01 (.lxi .bc) ∧ Coded3 0x11 (.lxi .de) ∧ Coded3 0x21 (.lxi .hl) ∧ Coded3 0x31 (.lxi .sp) ∧
  ∀ (p : PairA) (r : Reg8) (d16 : Word) (d8 : Byte) (s : State),
    Coded2 (BitVec.ofNat 8 (8 * regCode r + 6)) (.mvi r) ∧
    (∃ t, exec (.lxi p d16) s = .next t ∧ t.pc = s.pc + 3 ∧ pairNat t p = d16.toNat ∧ OnlyPair s t p) ∧
    exec (.mvi r d8) s = .next { s.writeOperand r d8 with pc := s.pc + 2 }

/-! ## Branching instructions -/

/-- R231 to R240: the jumps. A conditional one goes to the address in bytes 2 and 3 where its condition holds, and on to the next instruction where not; only PC
changes. -/
def Obligations.Jumps : Prop :=
  Coded1 0xE9 .pchl ∧ Coded3 0xC3 .jmp ∧ Coded3 0xDA .jc ∧ Coded3 0xD2 .jnc ∧ Coded3 0xCA .jz ∧ Coded3 0xC2 .jnz ∧
  Coded3 0xFA .jm ∧ Coded3 0xF2 .jp ∧ Coded3 0xEA .jpe ∧ Coded3 0xE2 .jpo ∧ ∀ (s : State) (addr : Word),
    exec .pchl s = .next { s with pc := s.regs.h ++ s.regs.l } ∧
    exec (.jmp addr) s = .next { s with pc := addr } ∧
    exec (.jc addr) s = .next { s with pc := if s.flags.cy = true then addr else s.pc + 3 } ∧
    exec (.jnc addr) s = .next { s with pc := if s.flags.cy = false then addr else s.pc + 3 } ∧
    exec (.jz addr) s = .next { s with pc := if s.flags.z = true then addr else s.pc + 3 } ∧
    exec (.jnz addr) s = .next { s with pc := if s.flags.z = false then addr else s.pc + 3 } ∧
    exec (.jm addr) s = .next { s with pc := if s.flags.s = true then addr else s.pc + 3 } ∧
    exec (.jp addr) s = .next { s with pc := if s.flags.s = false then addr else s.pc + 3 } ∧
    exec (.jpe addr) s = .next { s with pc := if s.flags.p = true then addr else s.pc + 3 } ∧
    exec (.jpo addr) s = .next { s with pc := if s.flags.p = false then addr else s.pc + 3 }

/-- R241 to R249: the calls. Taken, the address of the next instruction is pushed and PC goes to the address in bytes 2 and 3; not taken, only PC changes. The order
of the pushed bytes is the spec's decision D16 (log 28). -/
def Obligations.Calls : Prop :=
  Coded3 0xCD .call ∧ Coded3 0xDC .cc ∧ Coded3 0xD4 .cnc ∧ Coded3 0xCC .cz ∧ Coded3 0xC4 .cnz ∧
  Coded3 0xFC .cm ∧ Coded3 0xF4 .cp ∧ Coded3 0xEC .cpe ∧ Coded3 0xE4 .cpo ∧ ∀ (s : State) (addr : Word),
    let taken := called s (s.pc + 3) addr
    let past : State := { s with pc := s.pc + 3 }
    exec (.call addr) s = .next taken ∧
    exec (.cc addr) s = .next (if s.flags.cy = true then taken else past) ∧
    exec (.cnc addr) s = .next (if s.flags.cy = false then taken else past) ∧
    exec (.cz addr) s = .next (if s.flags.z = true then taken else past) ∧
    exec (.cnz addr) s = .next (if s.flags.z = false then taken else past) ∧
    exec (.cm addr) s = .next (if s.flags.s = true then taken else past) ∧
    exec (.cp addr) s = .next (if s.flags.s = false then taken else past) ∧
    exec (.cpe addr) s = .next (if s.flags.p = true then taken else past) ∧
    exec (.cpo addr) s = .next (if s.flags.p = false then taken else past)

/-- R250 to R258: the returns. Taken, PC is popped; not taken, only PC changes. The order of the two bytes is the spec's decision D16 (log 28). -/
def Obligations.Returns : Prop :=
  Coded1 0xC9 .ret ∧ Coded1 0xD8 .rc ∧ Coded1 0xD0 .rnc ∧ Coded1 0xC8 .rz ∧ Coded1 0xC0 .rnz ∧
  Coded1 0xF8 .rm ∧ Coded1 0xF0 .rp ∧ Coded1 0xE8 .rpe ∧ Coded1 0xE0 .rpo ∧ ∀ s : State,
    let past : State := { s with pc := s.pc + 1 }
    exec .ret s = .next (returned s) ∧
    exec .rc s = .next (if s.flags.cy = true then returned s else past) ∧
    exec .rnc s = .next (if s.flags.cy = false then returned s else past) ∧
    exec .rz s = .next (if s.flags.z = true then returned s else past) ∧
    exec .rnz s = .next (if s.flags.z = false then returned s else past) ∧
    exec .rm s = .next (if s.flags.s = true then returned s else past) ∧
    exec .rp s = .next (if s.flags.s = false then returned s else past) ∧
    exec .rpe s = .next (if s.flags.p = true then returned s else past) ∧
    exec .rpo s = .next (if s.flags.p = false then returned s else past)

/-- R259: a taken call, of any of the ten kinds, and a later taken return, of any of the nine, restore SP and set PC to the call's `next`, whatever happened between,
provided that SP is where the call left it and the two stack bytes hold what it stored. -/
def Obligations.CallThenReturn : Prop :=
  ∀ (i j : Instr) (s u : State), isCall i = true → condition s.flags i = true →
    s.kind (s.sp - 1) = .ram → s.kind (s.sp - 2) = .ram →
    ∃ t, exec i s = .next t ∧
      (isReturn j = true → condition u.flags j = true → u.params = t.params → u.sp = t.sp →
        Memory.read u.mem (s.sp - 1) = Memory.read t.mem (s.sp - 1) →
        Memory.read u.mem (s.sp - 2) = Memory.read t.mem (s.sp - 2) →
        exec j u = .next { u with sp := s.sp, pc := s.pc + BitVec.ofNat 16 i.length })

/-! ## Interrupts, halt, reset -/

/-- R273, R274, R278: an accepted RST offer resets INTE, halted and ei_shadow, pushes PC as it stands, and goes to 8 * n; nothing else changes. It wakes the halted
processor. (INTE reset and PC not advanced are the spec's decisions D12 and D24, log 18.) -/
def Obligations.InterruptEntry : Prop :=
  ∀ (s : State) (n : BitVec 3), Interrupted s n →
    ∃ t, step s = .next t ∧ t.pc.toNat = 8 * n.toNat ∧
      t = { called s s.pc t.pc with inte := false, halted := false, eiShadow := false, env := s.env.tail }

/-- R272, R273, R285: an offer made while INTE is 0 or the bar of EI_DELAY is up has no effect, whatever its byte; an accepted offer whose byte is no RST is
refused by name. -/
def Obligations.OffersNotTaken : Prop :=
  ∀ (s : State) (b : Byte) (rest : List Boundary),
    s.env = { reset := none, offer := some b } :: rest →
    if s.inte = false ∨ (s.params.eiDelay = true ∧ s.eiShadow = true) then
      step s = step { s with env := Boundary.quiet :: rest }
    else (∀ n : BitVec 3, b ≠ 0b11#2 ++ n ++ 0b111#3) → step s = .refused (.interruptNotRst b)

/-- R275, R279: from the entry to an interrupt, a handler that leaves SP and the two stack bytes as the entry made them and restores what it used resumes the
interrupted program with a return: the same state but for INTE, the two stack bytes, and what the handler did outside. -/
def Obligations.InterruptThenReturn : Prop :=
  ∀ (s : State) (n : BitVec 3) (j : Instr), Interrupted s n → s.kind (s.sp - 1) = .ram → s.kind (s.sp - 2) = .ram →
    ∃ t, step s = .next t ∧ t.regs = s.regs ∧ t.flags = s.flags ∧
      (∀ a, a ≠ s.sp - 1 → a ≠ s.sp - 2 → Memory.read t.mem a = Memory.read s.mem a) ∧
      ∀ u : State, isReturn j = true → condition u.flags j = true → u.params = t.params → u.sp = t.sp →
        Memory.read u.mem (s.sp - 1) = Memory.read t.mem (s.sp - 1) →
        Memory.read u.mem (s.sp - 2) = Memory.read t.mem (s.sp - 2) →
        exec j u = .next { u with sp := s.sp, pc := s.pc }

/-- R36, R307: the halted processor changes nothing at a boundary without a reset or an accepted offer; with INTE 0 and no reset to come, no number of steps changes
anything, whatever is offered. Only the environment's list gets shorter (log 2, 3). -/
def Obligations.HaltedProcessorWaits : Prop :=
  ∀ s : State,
    (s.halted = true → Undisturbed s → step s = .next { s with env := s.env.tail }) ∧
    (s.final → s.noReset → ∀ n, s.runsTo n { s with env := s.env.drop n })

/-- R300, R41: a reset at a boundary is taken whatever is offered there, running or halted. PC, INTE, halted and ei_shadow take their reset values; memory stays, or
after a power cycle every ram byte is a free value; nothing is pushed. (The spec's decision D11; that the trace, the count of port reads and the parameters stay is the
model's choice, log 7, 16, 17.) -/
def Obligations.ResetMove : Prop :=
  ∀ (s : State) (k : ResetKind), s.boundary.reset = some k →
    ∃ t, step s = .next t ∧ t.pc = s.params.resetPc ∧ t.inte = false ∧ t.halted = false ∧ t.eiShadow = false ∧
      (k = .powerKept → t.mem = s.mem) ∧
      (∀ a, Memory.read t.mem a =
        if k = .powerCycle ∧ s.kind a = .ram then powerUpByte s.draws a.toNat else Memory.read s.mem a) ∧
      t.params = s.params ∧ t.env = s.env.tail ∧ t.outTrace = s.outTrace ∧ t.ioReads = s.ioReads
end

