-- ==== Sys2Proof/Laws/Memory.lean ====
section
/-! SUPPORT. The laws of memory: a read after a write, and the canonical form, which every memory operation keeps. -/

namespace Sys2Proof.Machine

/-! ### Reading -/

theorem Memory.lookup_insert_same (k : Nat) (v : Byte) (m : Memory) (h : ∀ c ∈ m, c.1 ≠ k) :
    Memory.lookup k (Memory.insert k v m) = v := by
  induction m with
  | nil => simp [Memory.insert, Memory.lookup]
  | cons c m ih =>
    have hc : c.1 ≠ k := h c (by simp)
    unfold Memory.insert
    split
    · simp [Memory.lookup]
    · simp [Memory.lookup, hc, ih fun d hd => h d (by simp [hd])]

theorem Memory.lookup_insert_other {j k : Nat} (v : Byte) (m : Memory) (h : j ≠ k) :
    Memory.lookup j (Memory.insert k v m) = Memory.lookup j m := by
  induction m with
  | nil => simp [Memory.insert, Memory.lookup, Ne.symm h]
  | cons c m ih =>
    unfold Memory.insert
    split
    · simp [Memory.lookup, Ne.symm h]
    · simp [Memory.lookup, ih]

theorem Memory.lookup_filter_same (k : Nat) (m : Memory) :
    Memory.lookup k (m.filter (fun c => c.1 ≠ k)) = Memory.unlisted := by
  induction m with
  | nil => rfl
  | cons c m ih =>
    by_cases h : c.1 = k
    · simp [List.filter, h] at ih ⊢
      exact ih
    · simp [List.filter, h, Memory.lookup] at ih ⊢
      exact ih

theorem Memory.lookup_filter_other {j k : Nat} (m : Memory) (h : j ≠ k) :
    Memory.lookup j (m.filter (fun c => c.1 ≠ k)) = Memory.lookup j m := by
  induction m with
  | nil => rfl
  | cons c m ih =>
    by_cases hc : c.1 = k
    · have : c.1 ≠ j := by omega
      simpa [List.filter, hc, Memory.lookup, this, Ne.symm h] using ih
    · by_cases hj : c.1 = j
      · simp [List.filter, Memory.lookup, hj, h]
      · simpa [List.filter, hc, Memory.lookup, hj] using ih

/-- A write is what the next read of its address answers (R63). -/
theorem Memory.read_write_same (m : Memory) (a : Word) (v : Byte) : Memory.read (Memory.write m a v) a = v := by
  unfold Memory.read Memory.write
  dsimp only
  split
  · rename_i h
    rw [Memory.lookup_filter_same, h]
  · exact Memory.lookup_insert_same _ _ _ fun c hc => by simpa using (List.mem_filter.mp hc).2

/-- A write leaves every other address as it was (R63). -/
theorem Memory.read_write_other (m : Memory) {a b : Word} (v : Byte) (h : b ≠ a) :
    Memory.read (Memory.write m a v) b = Memory.read m b := by
  have hn : b.toNat ≠ a.toNat := fun e => h (BitVec.eq_of_toNat_eq e)
  unfold Memory.read Memory.write
  dsimp only
  split
  · exact Memory.lookup_filter_other m hn
  · rw [Memory.lookup_insert_other _ _ hn, Memory.lookup_filter_other m hn]

/-- The two read laws in one. -/
theorem Memory.read_write (m : Memory) (a b : Word) (v : Byte) :
    Memory.read (Memory.write m a v) b = if b = a then v else Memory.read m b := by
  split
  · rename_i h
    rw [h, Memory.read_write_same]
  · exact Memory.read_write_other m v ‹_›

/-! ### The canonical form -/

theorem Memory.mem_insert {k : Nat} {v : Byte} {m : Memory} {c : Host.Cell} (h : c ∈ Memory.insert k v m) :
    c = (k, v) ∨ c ∈ m := by
  induction m with
  | nil => simpa [Memory.insert] using h
  | cons d m ih =>
    unfold Memory.insert at h
    split at h
    · simpa using h
    · rcases List.mem_cons.mp h with h | h
      · simp [h]
      · rcases ih h with h | h <;> simp [h]

theorem Memory.insert_rising {k : Nat} (v : Byte) {m : Memory} (hm : m.Pairwise (fun x y => x.1 < y.1))
    (hk : ∀ c ∈ m, c.1 ≠ k) : (Memory.insert k v m).Pairwise (fun x y => x.1 < y.1) := by
  induction m with
  | nil => simp [Memory.insert]
  | cons d m ih =>
    have hd := List.pairwise_cons.mp hm
    have hne : d.1 ≠ k := hk d (by simp)
    unfold Memory.insert
    split
    · rename_i hlt
      refine List.pairwise_cons.mpr ⟨fun c hc => ?_, hm⟩
      rcases List.mem_cons.mp hc with rfl | hc
      · exact hlt
      · exact Nat.lt_trans hlt (hd.1 c hc)
    · refine List.pairwise_cons.mpr ⟨fun c hc => ?_, ih hd.2 fun c hc => hk c (by simp [hc])⟩
      rcases Memory.mem_insert hc with rfl | hc
      · show d.1 < k
        omega
      · exact hd.1 c hc

/-- A write keeps the canonical form. -/
theorem Memory.write_wf {m : Memory} (h : Memory.wf m) (a : Word) (v : Byte) : Memory.wf (Memory.write m a v) := by
  have hf : (m.filter (fun c => c.1 ≠ a.toNat)).Pairwise (fun x y => x.1 < y.1) := h.1.filter _
  have hb : ∀ c ∈ m.filter (fun c => c.1 ≠ a.toNat), c.1 < 65536 ∧ c.2 ≠ Memory.unlisted :=
    fun c hc => h.2 c (List.mem_of_mem_filter hc)
  unfold Memory.write
  dsimp only
  split
  · exact ⟨hf, hb⟩
  · refine ⟨Memory.insert_rising v hf fun c hc => by simpa using (List.mem_filter.mp hc).2, fun c hc => ?_⟩
    rcases Memory.mem_insert hc with rfl | hc
    · exact ⟨a.isLt, ‹_›⟩
    · exact hb c hc

/-- Memory made from a function is in canonical form. -/
theorem Memory.ofFn_wf (f : Nat → Byte) : Memory.wf (Memory.ofFn f) := by
  refine ⟨List.Pairwise.filter _ (List.pairwise_map.mpr List.pairwise_lt_range), fun c hc => ?_⟩
  obtain ⟨hc, hv⟩ := List.mem_filter.mp hc
  obtain ⟨k, hk, rfl⟩ := List.mem_map.mp hc
  exact ⟨List.mem_range.mp hk, by simpa using hv⟩

/-- The placing of an instruction keeps the canonical form. -/
theorem Memory.place_wf {m : Memory} (h : Memory.wf m) (pc : Word) (b1 b2 b3 : Byte) :
    Memory.wf (Memory.place m pc b1 b2 b3) :=
  Memory.write_wf (Memory.write_wf (Memory.write_wf h _ _) _ _) _ _

/-- Memory after reset is in canonical form. -/
theorem reset_mem_wf : Memory.wf State.reset.mem := ⟨List.Pairwise.nil, by simp [State.reset]⟩

theorem Memory.lookup_map_filter (f : Nat → Byte) (k : Nat) (l : List Nat) :
    Memory.lookup k ((l.map (fun j => (j, f j))).filter (fun c => c.2 ≠ Memory.unlisted)) =
      if k ∈ l then f k else Memory.unlisted := by
  induction l with
  | nil => rfl
  | cons j l ih =>
    by_cases hv : f j = Memory.unlisted
    · simp only [List.map_cons, List.filter, hv, ne_eq, not_true_eq_false, decide_false, ih, List.mem_cons]
      by_cases hk : k = j
      · subst hk
        by_cases hl : k ∈ l <;> simp [hl, hv]
      · simp [hk]
    · simp only [List.map_cons, List.filter, hv, ne_eq, not_false_eq_true, decide_true, Memory.lookup, ih, List.mem_cons]
      by_cases hk : j = k
      · simp [hk]
      · simp [hk, Ne.symm hk]

/-- Memory made from a function reads as the function. -/
theorem Memory.read_ofFn (f : Nat → Byte) (a : Word) : Memory.read (Memory.ofFn f) a = f a.toNat := by
  unfold Memory.read Memory.ofFn
  rw [Memory.lookup_map_filter, if_pos (List.mem_range.mpr a.isLt)]

end Sys2Proof.Machine
end

