-- ==== Sys2Proof/Laws/State.lean ====
section
/-! SUPPORT. One lemma per field per update of one field: what each update writes and what it leaves as it was. -/

namespace Sys2Proof.Machine

/-! ### `setRegs` -/

@[simp] theorem State.setRegs_regs (s : State) (v : Regs) : (s.setRegs v).regs = v := rfl
@[simp] theorem State.setRegs_sp (s : State) (v : Regs) : (s.setRegs v).sp = s.sp := rfl
@[simp] theorem State.setRegs_pc (s : State) (v : Regs) : (s.setRegs v).pc = s.pc := rfl
@[simp] theorem State.setRegs_flags (s : State) (v : Regs) : (s.setRegs v).flags = s.flags := rfl
@[simp] theorem State.setRegs_inte (s : State) (v : Regs) : (s.setRegs v).inte = s.inte := rfl
@[simp] theorem State.setRegs_halted (s : State) (v : Regs) : (s.setRegs v).halted = s.halted := rfl
@[simp] theorem State.setRegs_eiShadow (s : State) (v : Regs) : (s.setRegs v).eiShadow = s.eiShadow := rfl
@[simp] theorem State.setRegs_mem (s : State) (v : Regs) : (s.setRegs v).mem = s.mem := rfl
@[simp] theorem State.setRegs_outTrace (s : State) (v : Regs) : (s.setRegs v).outTrace = s.outTrace := rfl
@[simp] theorem State.setRegs_ioReads (s : State) (v : Regs) : (s.setRegs v).ioReads = s.ioReads := rfl
@[simp] theorem State.setRegs_params (s : State) (v : Regs) : (s.setRegs v).params = s.params := rfl
@[simp] theorem State.setRegs_env (s : State) (v : Regs) : (s.setRegs v).env = s.env := rfl
@[simp] theorem State.setRegs_draws (s : State) (v : Regs) : (s.setRegs v).draws = s.draws := rfl

/-! ### `setSp` -/

@[simp] theorem State.setSp_regs (s : State) (v : Word) : (s.setSp v).regs = s.regs := rfl
@[simp] theorem State.setSp_sp (s : State) (v : Word) : (s.setSp v).sp = v := rfl
@[simp] theorem State.setSp_pc (s : State) (v : Word) : (s.setSp v).pc = s.pc := rfl
@[simp] theorem State.setSp_flags (s : State) (v : Word) : (s.setSp v).flags = s.flags := rfl
@[simp] theorem State.setSp_inte (s : State) (v : Word) : (s.setSp v).inte = s.inte := rfl
@[simp] theorem State.setSp_halted (s : State) (v : Word) : (s.setSp v).halted = s.halted := rfl
@[simp] theorem State.setSp_eiShadow (s : State) (v : Word) : (s.setSp v).eiShadow = s.eiShadow := rfl
@[simp] theorem State.setSp_mem (s : State) (v : Word) : (s.setSp v).mem = s.mem := rfl
@[simp] theorem State.setSp_outTrace (s : State) (v : Word) : (s.setSp v).outTrace = s.outTrace := rfl
@[simp] theorem State.setSp_ioReads (s : State) (v : Word) : (s.setSp v).ioReads = s.ioReads := rfl
@[simp] theorem State.setSp_params (s : State) (v : Word) : (s.setSp v).params = s.params := rfl
@[simp] theorem State.setSp_env (s : State) (v : Word) : (s.setSp v).env = s.env := rfl
@[simp] theorem State.setSp_draws (s : State) (v : Word) : (s.setSp v).draws = s.draws := rfl

/-! ### `setPc` -/

@[simp] theorem State.setPc_regs (s : State) (v : Word) : (s.setPc v).regs = s.regs := rfl
@[simp] theorem State.setPc_sp (s : State) (v : Word) : (s.setPc v).sp = s.sp := rfl
@[simp] theorem State.setPc_pc (s : State) (v : Word) : (s.setPc v).pc = v := rfl
@[simp] theorem State.setPc_flags (s : State) (v : Word) : (s.setPc v).flags = s.flags := rfl
@[simp] theorem State.setPc_inte (s : State) (v : Word) : (s.setPc v).inte = s.inte := rfl
@[simp] theorem State.setPc_halted (s : State) (v : Word) : (s.setPc v).halted = s.halted := rfl
@[simp] theorem State.setPc_eiShadow (s : State) (v : Word) : (s.setPc v).eiShadow = s.eiShadow := rfl
@[simp] theorem State.setPc_mem (s : State) (v : Word) : (s.setPc v).mem = s.mem := rfl
@[simp] theorem State.setPc_outTrace (s : State) (v : Word) : (s.setPc v).outTrace = s.outTrace := rfl
@[simp] theorem State.setPc_ioReads (s : State) (v : Word) : (s.setPc v).ioReads = s.ioReads := rfl
@[simp] theorem State.setPc_params (s : State) (v : Word) : (s.setPc v).params = s.params := rfl
@[simp] theorem State.setPc_env (s : State) (v : Word) : (s.setPc v).env = s.env := rfl
@[simp] theorem State.setPc_draws (s : State) (v : Word) : (s.setPc v).draws = s.draws := rfl

/-! ### `setFlags` -/

@[simp] theorem State.setFlags_regs (s : State) (v : Flags) : (s.setFlags v).regs = s.regs := rfl
@[simp] theorem State.setFlags_sp (s : State) (v : Flags) : (s.setFlags v).sp = s.sp := rfl
@[simp] theorem State.setFlags_pc (s : State) (v : Flags) : (s.setFlags v).pc = s.pc := rfl
@[simp] theorem State.setFlags_flags (s : State) (v : Flags) : (s.setFlags v).flags = v := rfl
@[simp] theorem State.setFlags_inte (s : State) (v : Flags) : (s.setFlags v).inte = s.inte := rfl
@[simp] theorem State.setFlags_halted (s : State) (v : Flags) : (s.setFlags v).halted = s.halted := rfl
@[simp] theorem State.setFlags_eiShadow (s : State) (v : Flags) : (s.setFlags v).eiShadow = s.eiShadow := rfl
@[simp] theorem State.setFlags_mem (s : State) (v : Flags) : (s.setFlags v).mem = s.mem := rfl
@[simp] theorem State.setFlags_outTrace (s : State) (v : Flags) : (s.setFlags v).outTrace = s.outTrace := rfl
@[simp] theorem State.setFlags_ioReads (s : State) (v : Flags) : (s.setFlags v).ioReads = s.ioReads := rfl
@[simp] theorem State.setFlags_params (s : State) (v : Flags) : (s.setFlags v).params = s.params := rfl
@[simp] theorem State.setFlags_env (s : State) (v : Flags) : (s.setFlags v).env = s.env := rfl
@[simp] theorem State.setFlags_draws (s : State) (v : Flags) : (s.setFlags v).draws = s.draws := rfl

/-! ### `setInte` -/

@[simp] theorem State.setInte_regs (s : State) (v : Bool) : (s.setInte v).regs = s.regs := rfl
@[simp] theorem State.setInte_sp (s : State) (v : Bool) : (s.setInte v).sp = s.sp := rfl
@[simp] theorem State.setInte_pc (s : State) (v : Bool) : (s.setInte v).pc = s.pc := rfl
@[simp] theorem State.setInte_flags (s : State) (v : Bool) : (s.setInte v).flags = s.flags := rfl
@[simp] theorem State.setInte_inte (s : State) (v : Bool) : (s.setInte v).inte = v := rfl
@[simp] theorem State.setInte_halted (s : State) (v : Bool) : (s.setInte v).halted = s.halted := rfl
@[simp] theorem State.setInte_eiShadow (s : State) (v : Bool) : (s.setInte v).eiShadow = s.eiShadow := rfl
@[simp] theorem State.setInte_mem (s : State) (v : Bool) : (s.setInte v).mem = s.mem := rfl
@[simp] theorem State.setInte_outTrace (s : State) (v : Bool) : (s.setInte v).outTrace = s.outTrace := rfl
@[simp] theorem State.setInte_ioReads (s : State) (v : Bool) : (s.setInte v).ioReads = s.ioReads := rfl
@[simp] theorem State.setInte_params (s : State) (v : Bool) : (s.setInte v).params = s.params := rfl
@[simp] theorem State.setInte_env (s : State) (v : Bool) : (s.setInte v).env = s.env := rfl
@[simp] theorem State.setInte_draws (s : State) (v : Bool) : (s.setInte v).draws = s.draws := rfl

/-! ### `setHalted` -/

@[simp] theorem State.setHalted_regs (s : State) (v : Bool) : (s.setHalted v).regs = s.regs := rfl
@[simp] theorem State.setHalted_sp (s : State) (v : Bool) : (s.setHalted v).sp = s.sp := rfl
@[simp] theorem State.setHalted_pc (s : State) (v : Bool) : (s.setHalted v).pc = s.pc := rfl
@[simp] theorem State.setHalted_flags (s : State) (v : Bool) : (s.setHalted v).flags = s.flags := rfl
@[simp] theorem State.setHalted_inte (s : State) (v : Bool) : (s.setHalted v).inte = s.inte := rfl
@[simp] theorem State.setHalted_halted (s : State) (v : Bool) : (s.setHalted v).halted = v := rfl
@[simp] theorem State.setHalted_eiShadow (s : State) (v : Bool) : (s.setHalted v).eiShadow = s.eiShadow := rfl
@[simp] theorem State.setHalted_mem (s : State) (v : Bool) : (s.setHalted v).mem = s.mem := rfl
@[simp] theorem State.setHalted_outTrace (s : State) (v : Bool) : (s.setHalted v).outTrace = s.outTrace := rfl
@[simp] theorem State.setHalted_ioReads (s : State) (v : Bool) : (s.setHalted v).ioReads = s.ioReads := rfl
@[simp] theorem State.setHalted_params (s : State) (v : Bool) : (s.setHalted v).params = s.params := rfl
@[simp] theorem State.setHalted_env (s : State) (v : Bool) : (s.setHalted v).env = s.env := rfl
@[simp] theorem State.setHalted_draws (s : State) (v : Bool) : (s.setHalted v).draws = s.draws := rfl

/-! ### `setEiShadow` -/

@[simp] theorem State.setEiShadow_regs (s : State) (v : Bool) : (s.setEiShadow v).regs = s.regs := rfl
@[simp] theorem State.setEiShadow_sp (s : State) (v : Bool) : (s.setEiShadow v).sp = s.sp := rfl
@[simp] theorem State.setEiShadow_pc (s : State) (v : Bool) : (s.setEiShadow v).pc = s.pc := rfl
@[simp] theorem State.setEiShadow_flags (s : State) (v : Bool) : (s.setEiShadow v).flags = s.flags := rfl
@[simp] theorem State.setEiShadow_inte (s : State) (v : Bool) : (s.setEiShadow v).inte = s.inte := rfl
@[simp] theorem State.setEiShadow_halted (s : State) (v : Bool) : (s.setEiShadow v).halted = s.halted := rfl
@[simp] theorem State.setEiShadow_eiShadow (s : State) (v : Bool) : (s.setEiShadow v).eiShadow = v := rfl
@[simp] theorem State.setEiShadow_mem (s : State) (v : Bool) : (s.setEiShadow v).mem = s.mem := rfl
@[simp] theorem State.setEiShadow_outTrace (s : State) (v : Bool) : (s.setEiShadow v).outTrace = s.outTrace := rfl
@[simp] theorem State.setEiShadow_ioReads (s : State) (v : Bool) : (s.setEiShadow v).ioReads = s.ioReads := rfl
@[simp] theorem State.setEiShadow_params (s : State) (v : Bool) : (s.setEiShadow v).params = s.params := rfl
@[simp] theorem State.setEiShadow_env (s : State) (v : Bool) : (s.setEiShadow v).env = s.env := rfl
@[simp] theorem State.setEiShadow_draws (s : State) (v : Bool) : (s.setEiShadow v).draws = s.draws := rfl

/-! ### `setMem` -/

@[simp] theorem State.setMem_regs (s : State) (v : Memory) : (s.setMem v).regs = s.regs := rfl
@[simp] theorem State.setMem_sp (s : State) (v : Memory) : (s.setMem v).sp = s.sp := rfl
@[simp] theorem State.setMem_pc (s : State) (v : Memory) : (s.setMem v).pc = s.pc := rfl
@[simp] theorem State.setMem_flags (s : State) (v : Memory) : (s.setMem v).flags = s.flags := rfl
@[simp] theorem State.setMem_inte (s : State) (v : Memory) : (s.setMem v).inte = s.inte := rfl
@[simp] theorem State.setMem_halted (s : State) (v : Memory) : (s.setMem v).halted = s.halted := rfl
@[simp] theorem State.setMem_eiShadow (s : State) (v : Memory) : (s.setMem v).eiShadow = s.eiShadow := rfl
@[simp] theorem State.setMem_mem (s : State) (v : Memory) : (s.setMem v).mem = v := rfl
@[simp] theorem State.setMem_outTrace (s : State) (v : Memory) : (s.setMem v).outTrace = s.outTrace := rfl
@[simp] theorem State.setMem_ioReads (s : State) (v : Memory) : (s.setMem v).ioReads = s.ioReads := rfl
@[simp] theorem State.setMem_params (s : State) (v : Memory) : (s.setMem v).params = s.params := rfl
@[simp] theorem State.setMem_env (s : State) (v : Memory) : (s.setMem v).env = s.env := rfl
@[simp] theorem State.setMem_draws (s : State) (v : Memory) : (s.setMem v).draws = s.draws := rfl

/-! ### `setOutTrace` -/

@[simp] theorem State.setOutTrace_regs (s : State) (v : List (Byte × Byte)) : (s.setOutTrace v).regs = s.regs := rfl
@[simp] theorem State.setOutTrace_sp (s : State) (v : List (Byte × Byte)) : (s.setOutTrace v).sp = s.sp := rfl
@[simp] theorem State.setOutTrace_pc (s : State) (v : List (Byte × Byte)) : (s.setOutTrace v).pc = s.pc := rfl
@[simp] theorem State.setOutTrace_flags (s : State) (v : List (Byte × Byte)) : (s.setOutTrace v).flags = s.flags := rfl
@[simp] theorem State.setOutTrace_inte (s : State) (v : List (Byte × Byte)) : (s.setOutTrace v).inte = s.inte := rfl
@[simp] theorem State.setOutTrace_halted (s : State) (v : List (Byte × Byte)) : (s.setOutTrace v).halted = s.halted := rfl
@[simp] theorem State.setOutTrace_eiShadow (s : State) (v : List (Byte × Byte)) : (s.setOutTrace v).eiShadow = s.eiShadow := rfl
@[simp] theorem State.setOutTrace_mem (s : State) (v : List (Byte × Byte)) : (s.setOutTrace v).mem = s.mem := rfl
@[simp] theorem State.setOutTrace_outTrace (s : State) (v : List (Byte × Byte)) : (s.setOutTrace v).outTrace = v := rfl
@[simp] theorem State.setOutTrace_ioReads (s : State) (v : List (Byte × Byte)) : (s.setOutTrace v).ioReads = s.ioReads := rfl
@[simp] theorem State.setOutTrace_params (s : State) (v : List (Byte × Byte)) : (s.setOutTrace v).params = s.params := rfl
@[simp] theorem State.setOutTrace_env (s : State) (v : List (Byte × Byte)) : (s.setOutTrace v).env = s.env := rfl
@[simp] theorem State.setOutTrace_draws (s : State) (v : List (Byte × Byte)) : (s.setOutTrace v).draws = s.draws := rfl

/-! ### `setIoReads` -/

@[simp] theorem State.setIoReads_regs (s : State) (v : Nat) : (s.setIoReads v).regs = s.regs := rfl
@[simp] theorem State.setIoReads_sp (s : State) (v : Nat) : (s.setIoReads v).sp = s.sp := rfl
@[simp] theorem State.setIoReads_pc (s : State) (v : Nat) : (s.setIoReads v).pc = s.pc := rfl
@[simp] theorem State.setIoReads_flags (s : State) (v : Nat) : (s.setIoReads v).flags = s.flags := rfl
@[simp] theorem State.setIoReads_inte (s : State) (v : Nat) : (s.setIoReads v).inte = s.inte := rfl
@[simp] theorem State.setIoReads_halted (s : State) (v : Nat) : (s.setIoReads v).halted = s.halted := rfl
@[simp] theorem State.setIoReads_eiShadow (s : State) (v : Nat) : (s.setIoReads v).eiShadow = s.eiShadow := rfl
@[simp] theorem State.setIoReads_mem (s : State) (v : Nat) : (s.setIoReads v).mem = s.mem := rfl
@[simp] theorem State.setIoReads_outTrace (s : State) (v : Nat) : (s.setIoReads v).outTrace = s.outTrace := rfl
@[simp] theorem State.setIoReads_ioReads (s : State) (v : Nat) : (s.setIoReads v).ioReads = v := rfl
@[simp] theorem State.setIoReads_params (s : State) (v : Nat) : (s.setIoReads v).params = s.params := rfl
@[simp] theorem State.setIoReads_env (s : State) (v : Nat) : (s.setIoReads v).env = s.env := rfl
@[simp] theorem State.setIoReads_draws (s : State) (v : Nat) : (s.setIoReads v).draws = s.draws := rfl

/-! ### `setEnv` -/

@[simp] theorem State.setEnv_regs (s : State) (v : List Boundary) : (s.setEnv v).regs = s.regs := rfl
@[simp] theorem State.setEnv_sp (s : State) (v : List Boundary) : (s.setEnv v).sp = s.sp := rfl
@[simp] theorem State.setEnv_pc (s : State) (v : List Boundary) : (s.setEnv v).pc = s.pc := rfl
@[simp] theorem State.setEnv_flags (s : State) (v : List Boundary) : (s.setEnv v).flags = s.flags := rfl
@[simp] theorem State.setEnv_inte (s : State) (v : List Boundary) : (s.setEnv v).inte = s.inte := rfl
@[simp] theorem State.setEnv_halted (s : State) (v : List Boundary) : (s.setEnv v).halted = s.halted := rfl
@[simp] theorem State.setEnv_eiShadow (s : State) (v : List Boundary) : (s.setEnv v).eiShadow = s.eiShadow := rfl
@[simp] theorem State.setEnv_mem (s : State) (v : List Boundary) : (s.setEnv v).mem = s.mem := rfl
@[simp] theorem State.setEnv_outTrace (s : State) (v : List Boundary) : (s.setEnv v).outTrace = s.outTrace := rfl
@[simp] theorem State.setEnv_ioReads (s : State) (v : List Boundary) : (s.setEnv v).ioReads = s.ioReads := rfl
@[simp] theorem State.setEnv_params (s : State) (v : List Boundary) : (s.setEnv v).params = s.params := rfl
@[simp] theorem State.setEnv_env (s : State) (v : List Boundary) : (s.setEnv v).env = v := rfl
@[simp] theorem State.setEnv_draws (s : State) (v : List Boundary) : (s.setEnv v).draws = s.draws := rfl

/-! ### `setDraws` -/

@[simp] theorem State.setDraws_regs (s : State) (v : Nat) : (s.setDraws v).regs = s.regs := rfl
@[simp] theorem State.setDraws_sp (s : State) (v : Nat) : (s.setDraws v).sp = s.sp := rfl
@[simp] theorem State.setDraws_pc (s : State) (v : Nat) : (s.setDraws v).pc = s.pc := rfl
@[simp] theorem State.setDraws_flags (s : State) (v : Nat) : (s.setDraws v).flags = s.flags := rfl
@[simp] theorem State.setDraws_inte (s : State) (v : Nat) : (s.setDraws v).inte = s.inte := rfl
@[simp] theorem State.setDraws_halted (s : State) (v : Nat) : (s.setDraws v).halted = s.halted := rfl
@[simp] theorem State.setDraws_eiShadow (s : State) (v : Nat) : (s.setDraws v).eiShadow = s.eiShadow := rfl
@[simp] theorem State.setDraws_mem (s : State) (v : Nat) : (s.setDraws v).mem = s.mem := rfl
@[simp] theorem State.setDraws_outTrace (s : State) (v : Nat) : (s.setDraws v).outTrace = s.outTrace := rfl
@[simp] theorem State.setDraws_ioReads (s : State) (v : Nat) : (s.setDraws v).ioReads = s.ioReads := rfl
@[simp] theorem State.setDraws_params (s : State) (v : Nat) : (s.setDraws v).params = s.params := rfl
@[simp] theorem State.setDraws_env (s : State) (v : Nat) : (s.setDraws v).env = s.env := rfl
@[simp] theorem State.setDraws_draws (s : State) (v : Nat) : (s.setDraws v).draws = v := rfl

/-! ### `advance` -/

@[simp] theorem State.advance_regs (s : State) (n : Nat) : (s.advance n).regs = s.regs := rfl
@[simp] theorem State.advance_sp (s : State) (n : Nat) : (s.advance n).sp = s.sp := rfl
@[simp] theorem State.advance_pc (s : State) (n : Nat) : (s.advance n).pc = s.pc + BitVec.ofNat 16 n := rfl
@[simp] theorem State.advance_flags (s : State) (n : Nat) : (s.advance n).flags = s.flags := rfl
@[simp] theorem State.advance_inte (s : State) (n : Nat) : (s.advance n).inte = s.inte := rfl
@[simp] theorem State.advance_halted (s : State) (n : Nat) : (s.advance n).halted = s.halted := rfl
@[simp] theorem State.advance_eiShadow (s : State) (n : Nat) : (s.advance n).eiShadow = s.eiShadow := rfl
@[simp] theorem State.advance_mem (s : State) (n : Nat) : (s.advance n).mem = s.mem := rfl
@[simp] theorem State.advance_outTrace (s : State) (n : Nat) : (s.advance n).outTrace = s.outTrace := rfl
@[simp] theorem State.advance_ioReads (s : State) (n : Nat) : (s.advance n).ioReads = s.ioReads := rfl
@[simp] theorem State.advance_params (s : State) (n : Nat) : (s.advance n).params = s.params := rfl
@[simp] theorem State.advance_env (s : State) (n : Nat) : (s.advance n).env = s.env := rfl
@[simp] theorem State.advance_draws (s : State) (n : Nat) : (s.advance n).draws = s.draws := rfl

end Sys2Proof.Machine
end

