-- ==== Sys2Proof/Laws/Ops.lean ====
section
/-! SUPPORT. What each shared operation can do, said once: the fields it leaves as they were (tagged simp), and one lemma on what it
answers. -/

namespace Sys2Proof.Machine

open Config

/-! ### Memory accesses -/

/-! #### `readByte` -/

@[simp] theorem State.readByte_regs (s : State) (a : Word) : (s.readByte a).2.regs = s.regs := by
  unfold State.readByte; split <;> rfl
@[simp] theorem State.readByte_sp (s : State) (a : Word) : (s.readByte a).2.sp = s.sp := by
  unfold State.readByte; split <;> rfl
@[simp] theorem State.readByte_pc (s : State) (a : Word) : (s.readByte a).2.pc = s.pc := by
  unfold State.readByte; split <;> rfl
@[simp] theorem State.readByte_flags (s : State) (a : Word) : (s.readByte a).2.flags = s.flags := by
  unfold State.readByte; split <;> rfl
@[simp] theorem State.readByte_inte (s : State) (a : Word) : (s.readByte a).2.inte = s.inte := by
  unfold State.readByte; split <;> rfl
@[simp] theorem State.readByte_halted (s : State) (a : Word) : (s.readByte a).2.halted = s.halted := by
  unfold State.readByte; split <;> rfl
@[simp] theorem State.readByte_eiShadow (s : State) (a : Word) : (s.readByte a).2.eiShadow = s.eiShadow := by
  unfold State.readByte; split <;> rfl
@[simp] theorem State.readByte_mem (s : State) (a : Word) : (s.readByte a).2.mem = s.mem := by
  unfold State.readByte; split <;> rfl
@[simp] theorem State.readByte_outTrace (s : State) (a : Word) : (s.readByte a).2.outTrace = s.outTrace := by
  unfold State.readByte; split <;> rfl
@[simp] theorem State.readByte_ioReads (s : State) (a : Word) : (s.readByte a).2.ioReads = s.ioReads := by
  unfold State.readByte; split <;> rfl
@[simp] theorem State.readByte_params (s : State) (a : Word) : (s.readByte a).2.params = s.params := by
  unfold State.readByte; split <;> rfl
@[simp] theorem State.readByte_env (s : State) (a : Word) : (s.readByte a).2.env = s.env := by
  unfold State.readByte; split <;> rfl

/-! #### `writeByte` -/

@[simp] theorem State.writeByte_regs (s : State) (a : Word) (v : Byte) : (s.writeByte a v).regs = s.regs := by
  unfold State.writeByte; split <;> rfl
@[simp] theorem State.writeByte_sp (s : State) (a : Word) (v : Byte) : (s.writeByte a v).sp = s.sp := by
  unfold State.writeByte; split <;> rfl
@[simp] theorem State.writeByte_pc (s : State) (a : Word) (v : Byte) : (s.writeByte a v).pc = s.pc := by
  unfold State.writeByte; split <;> rfl
@[simp] theorem State.writeByte_flags (s : State) (a : Word) (v : Byte) : (s.writeByte a v).flags = s.flags := by
  unfold State.writeByte; split <;> rfl
@[simp] theorem State.writeByte_inte (s : State) (a : Word) (v : Byte) : (s.writeByte a v).inte = s.inte := by
  unfold State.writeByte; split <;> rfl
@[simp] theorem State.writeByte_halted (s : State) (a : Word) (v : Byte) : (s.writeByte a v).halted = s.halted := by
  unfold State.writeByte; split <;> rfl
@[simp] theorem State.writeByte_eiShadow (s : State) (a : Word) (v : Byte) : (s.writeByte a v).eiShadow = s.eiShadow := by
  unfold State.writeByte; split <;> rfl
@[simp] theorem State.writeByte_outTrace (s : State) (a : Word) (v : Byte) : (s.writeByte a v).outTrace = s.outTrace := by
  unfold State.writeByte; split <;> rfl
@[simp] theorem State.writeByte_ioReads (s : State) (a : Word) (v : Byte) : (s.writeByte a v).ioReads = s.ioReads := by
  unfold State.writeByte; split <;> rfl
@[simp] theorem State.writeByte_params (s : State) (a : Word) (v : Byte) : (s.writeByte a v).params = s.params := by
  unfold State.writeByte; split <;> rfl
@[simp] theorem State.writeByte_env (s : State) (a : Word) (v : Byte) : (s.writeByte a v).env = s.env := by
  unfold State.writeByte; split <;> rfl
@[simp] theorem State.writeByte_draws (s : State) (a : Word) (v : Byte) : (s.writeByte a v).draws = s.draws := by
  unfold State.writeByte; split <;> rfl

/-- The map of memory kinds depends on the launch parameters alone. -/
theorem State.kind_eq_of_params {s t : State} (h : t.params = s.params) (a : Word) : t.kind a = s.kind a := by
  unfold State.kind; rw [h]

@[simp] theorem State.kind_readByte (s : State) (a b : Word) : (s.readByte a).2.kind b = s.kind b :=
  State.kind_eq_of_params (by simp) b

@[simp] theorem State.kind_writeByte (s : State) (a b : Word) (v : Byte) : (s.writeByte a v).kind b = s.kind b :=
  State.kind_eq_of_params (by simp) b

/-- A read answers the byte of memory and changes nothing, or where there is no memory a free byte, and counts it (R69). -/
theorem State.readByte_cases (s : State) (a : Word) :
    (s.kind a ≠ .absent ∧ s.readByte a = (Memory.read s.mem a, s)) ∨
      (s.kind a = .absent ∧ s.readByte a = (absentByte a s.draws, s.setDraws (s.draws + 1))) := by
  unfold State.readByte
  cases h : s.kind a <;> simp

/-- A read of ram or rom (R62). -/
theorem State.readByte_present {s : State} {a : Word} (h : s.kind a ≠ .absent) :
    s.readByte a = (Memory.read s.mem a, s) := by
  rcases s.readByte_cases a with ⟨_, e⟩ | ⟨h', _⟩
  · exact e
  · exact absurd h' h

/-- A write is a change of memory alone, and of ram alone (R63, R69). -/
theorem State.writeByte_eq (s : State) (a : Word) (v : Byte) :
    s.writeByte a v = { s with mem := if s.kind a = .ram then Memory.write s.mem a v else s.mem } := by
  unfold State.writeByte
  cases s.kind a <;> rfl

/-- What every address holds after a write: the byte where it was written to ram, and elsewhere what it held (R63, R69). -/
theorem State.read_writeByte (s : State) (a b : Word) (v : Byte) :
    Memory.read (s.writeByte a v).mem b = if b = a ∧ s.kind a = .ram then v else Memory.read s.mem b := by
  unfold State.writeByte
  cases h : s.kind a <;> simp [Memory.read_write]

/-- A write keeps the canonical form. -/
theorem State.writeByte_wf {s : State} (h : Memory.wf s.mem) (a : Word) (v : Byte) : Memory.wf (s.writeByte a v).mem := by
  unfold State.writeByte
  split
  · exact Memory.write_wf h a v
  · exact h

/-! #### `readWord` -/

@[simp] theorem State.readWord_regs (s : State) (a : Word) : (s.readWord a).2.regs = s.regs := by
  simp [State.readWord]
@[simp] theorem State.readWord_sp (s : State) (a : Word) : (s.readWord a).2.sp = s.sp := by
  simp [State.readWord]
@[simp] theorem State.readWord_pc (s : State) (a : Word) : (s.readWord a).2.pc = s.pc := by
  simp [State.readWord]
@[simp] theorem State.readWord_flags (s : State) (a : Word) : (s.readWord a).2.flags = s.flags := by
  simp [State.readWord]
@[simp] theorem State.readWord_inte (s : State) (a : Word) : (s.readWord a).2.inte = s.inte := by
  simp [State.readWord]
@[simp] theorem State.readWord_halted (s : State) (a : Word) : (s.readWord a).2.halted = s.halted := by
  simp [State.readWord]
@[simp] theorem State.readWord_eiShadow (s : State) (a : Word) : (s.readWord a).2.eiShadow = s.eiShadow := by
  simp [State.readWord]
@[simp] theorem State.readWord_mem (s : State) (a : Word) : (s.readWord a).2.mem = s.mem := by
  simp [State.readWord]
@[simp] theorem State.readWord_outTrace (s : State) (a : Word) : (s.readWord a).2.outTrace = s.outTrace := by
  simp [State.readWord]
@[simp] theorem State.readWord_ioReads (s : State) (a : Word) : (s.readWord a).2.ioReads = s.ioReads := by
  simp [State.readWord]
@[simp] theorem State.readWord_params (s : State) (a : Word) : (s.readWord a).2.params = s.params := by
  simp [State.readWord]
@[simp] theorem State.readWord_env (s : State) (a : Word) : (s.readWord a).2.env = s.env := by
  simp [State.readWord]

/-! #### `writeWord` -/

@[simp] theorem State.writeWord_regs (s : State) (a v : Word) : (s.writeWord a v).regs = s.regs := by
  simp [State.writeWord]
@[simp] theorem State.writeWord_sp (s : State) (a v : Word) : (s.writeWord a v).sp = s.sp := by
  simp [State.writeWord]
@[simp] theorem State.writeWord_pc (s : State) (a v : Word) : (s.writeWord a v).pc = s.pc := by
  simp [State.writeWord]
@[simp] theorem State.writeWord_flags (s : State) (a v : Word) : (s.writeWord a v).flags = s.flags := by
  simp [State.writeWord]
@[simp] theorem State.writeWord_inte (s : State) (a v : Word) : (s.writeWord a v).inte = s.inte := by
  simp [State.writeWord]
@[simp] theorem State.writeWord_halted (s : State) (a v : Word) : (s.writeWord a v).halted = s.halted := by
  simp [State.writeWord]
@[simp] theorem State.writeWord_eiShadow (s : State) (a v : Word) : (s.writeWord a v).eiShadow = s.eiShadow := by
  simp [State.writeWord]
@[simp] theorem State.writeWord_outTrace (s : State) (a v : Word) : (s.writeWord a v).outTrace = s.outTrace := by
  simp [State.writeWord]
@[simp] theorem State.writeWord_ioReads (s : State) (a v : Word) : (s.writeWord a v).ioReads = s.ioReads := by
  simp [State.writeWord]
@[simp] theorem State.writeWord_params (s : State) (a v : Word) : (s.writeWord a v).params = s.params := by
  simp [State.writeWord]
@[simp] theorem State.writeWord_env (s : State) (a v : Word) : (s.writeWord a v).env = s.env := by
  simp [State.writeWord]
@[simp] theorem State.writeWord_draws (s : State) (a v : Word) : (s.writeWord a v).draws = s.draws := by
  simp [State.writeWord]

/-- A 16-bit read where there is memory: low byte at the address, high byte at the next (R64, R65). -/
theorem State.readWord_present {s : State} {a : Word} (h : s.kind a ≠ .absent) (h' : s.kind (a + 1) ≠ .absent) :
    s.readWord a = (wordOf (Memory.read s.mem (a + 1)) (Memory.read s.mem a), s) := by
  unfold State.readWord
  simp only [State.readByte_present h, State.readByte_present h']

/-- What every address holds after a 16-bit write (R64, R65). -/
theorem State.read_writeWord (s : State) (a b v : Word) :
    Memory.read (s.writeWord a v).mem b =
      if b = a + 1 ∧ s.kind (a + 1) = .ram then hiByte v
      else if b = a ∧ s.kind a = .ram then loByte v else Memory.read s.mem b := by
  simp [State.writeWord, State.read_writeByte]

/-- A 16-bit write keeps the canonical form. -/
theorem State.writeWord_wf {s : State} (h : Memory.wf s.mem) (a v : Word) : Memory.wf (s.writeWord a v).mem :=
  State.writeByte_wf (State.writeByte_wf h _ _) _ _

/-! ### The stack, calls and returns -/

/-! #### `pushBytes` -/

@[simp] theorem State.pushBytes_regs (s : State) (x y : Byte) : (s.pushBytes x y).regs = s.regs := by
  simp [State.pushBytes]
@[simp] theorem State.pushBytes_sp (s : State) (x y : Byte) : (s.pushBytes x y).sp = s.sp - 2 := by
  simp [State.pushBytes]
@[simp] theorem State.pushBytes_pc (s : State) (x y : Byte) : (s.pushBytes x y).pc = s.pc := by
  simp [State.pushBytes]
@[simp] theorem State.pushBytes_flags (s : State) (x y : Byte) : (s.pushBytes x y).flags = s.flags := by
  simp [State.pushBytes]
@[simp] theorem State.pushBytes_inte (s : State) (x y : Byte) : (s.pushBytes x y).inte = s.inte := by
  simp [State.pushBytes]
@[simp] theorem State.pushBytes_halted (s : State) (x y : Byte) : (s.pushBytes x y).halted = s.halted := by
  simp [State.pushBytes]
@[simp] theorem State.pushBytes_eiShadow (s : State) (x y : Byte) : (s.pushBytes x y).eiShadow = s.eiShadow := by
  simp [State.pushBytes]
@[simp] theorem State.pushBytes_outTrace (s : State) (x y : Byte) : (s.pushBytes x y).outTrace = s.outTrace := by
  simp [State.pushBytes]
@[simp] theorem State.pushBytes_ioReads (s : State) (x y : Byte) : (s.pushBytes x y).ioReads = s.ioReads := by
  simp [State.pushBytes]
@[simp] theorem State.pushBytes_params (s : State) (x y : Byte) : (s.pushBytes x y).params = s.params := by
  simp [State.pushBytes]
@[simp] theorem State.pushBytes_env (s : State) (x y : Byte) : (s.pushBytes x y).env = s.env := by
  simp [State.pushBytes]
@[simp] theorem State.pushBytes_draws (s : State) (x y : Byte) : (s.pushBytes x y).draws = s.draws := by
  simp [State.pushBytes]

/-! #### `push16` -/

@[simp] theorem State.push16_regs (s : State) (v : Word) : (s.push16 v).regs = s.regs := by
  simp [State.push16]
@[simp] theorem State.push16_sp (s : State) (v : Word) : (s.push16 v).sp = s.sp - 2 := by
  simp [State.push16]
@[simp] theorem State.push16_pc (s : State) (v : Word) : (s.push16 v).pc = s.pc := by
  simp [State.push16]
@[simp] theorem State.push16_flags (s : State) (v : Word) : (s.push16 v).flags = s.flags := by
  simp [State.push16]
@[simp] theorem State.push16_inte (s : State) (v : Word) : (s.push16 v).inte = s.inte := by
  simp [State.push16]
@[simp] theorem State.push16_halted (s : State) (v : Word) : (s.push16 v).halted = s.halted := by
  simp [State.push16]
@[simp] theorem State.push16_eiShadow (s : State) (v : Word) : (s.push16 v).eiShadow = s.eiShadow := by
  simp [State.push16]
@[simp] theorem State.push16_outTrace (s : State) (v : Word) : (s.push16 v).outTrace = s.outTrace := by
  simp [State.push16]
@[simp] theorem State.push16_ioReads (s : State) (v : Word) : (s.push16 v).ioReads = s.ioReads := by
  simp [State.push16]
@[simp] theorem State.push16_params (s : State) (v : Word) : (s.push16 v).params = s.params := by
  simp [State.push16]
@[simp] theorem State.push16_env (s : State) (v : Word) : (s.push16 v).env = s.env := by
  simp [State.push16]
@[simp] theorem State.push16_draws (s : State) (v : Word) : (s.push16 v).draws = s.draws := by
  simp [State.push16]

/-! #### `pop16` -/

@[simp] theorem State.pop16_regs (s : State) : s.pop16.2.regs = s.regs := by
  simp [State.pop16]
@[simp] theorem State.pop16_sp (s : State) : s.pop16.2.sp = s.sp + 2 := by
  simp [State.pop16]
@[simp] theorem State.pop16_pc (s : State) : s.pop16.2.pc = s.pc := by
  simp [State.pop16]
@[simp] theorem State.pop16_flags (s : State) : s.pop16.2.flags = s.flags := by
  simp [State.pop16]
@[simp] theorem State.pop16_inte (s : State) : s.pop16.2.inte = s.inte := by
  simp [State.pop16]
@[simp] theorem State.pop16_halted (s : State) : s.pop16.2.halted = s.halted := by
  simp [State.pop16]
@[simp] theorem State.pop16_eiShadow (s : State) : s.pop16.2.eiShadow = s.eiShadow := by
  simp [State.pop16]
@[simp] theorem State.pop16_mem (s : State) : s.pop16.2.mem = s.mem := by
  simp [State.pop16]
@[simp] theorem State.pop16_outTrace (s : State) : s.pop16.2.outTrace = s.outTrace := by
  simp [State.pop16]
@[simp] theorem State.pop16_ioReads (s : State) : s.pop16.2.ioReads = s.ioReads := by
  simp [State.pop16]
@[simp] theorem State.pop16_params (s : State) : s.pop16.2.params = s.params := by
  simp [State.pop16]
@[simp] theorem State.pop16_env (s : State) : s.pop16.2.env = s.env := by
  simp [State.pop16]

/-! #### `callTo` -/

@[simp] theorem State.callTo_regs (s : State) (r t : Word) : (s.callTo r t).regs = s.regs := by
  simp [State.callTo]
@[simp] theorem State.callTo_sp (s : State) (r t : Word) : (s.callTo r t).sp = s.sp - 2 := by
  simp [State.callTo]
@[simp] theorem State.callTo_pc (s : State) (r t : Word) : (s.callTo r t).pc = t := by
  simp [State.callTo]
@[simp] theorem State.callTo_flags (s : State) (r t : Word) : (s.callTo r t).flags = s.flags := by
  simp [State.callTo]
@[simp] theorem State.callTo_inte (s : State) (r t : Word) : (s.callTo r t).inte = s.inte := by
  simp [State.callTo]
@[simp] theorem State.callTo_halted (s : State) (r t : Word) : (s.callTo r t).halted = s.halted := by
  simp [State.callTo]
@[simp] theorem State.callTo_eiShadow (s : State) (r t : Word) : (s.callTo r t).eiShadow = s.eiShadow := by
  simp [State.callTo]
@[simp] theorem State.callTo_outTrace (s : State) (r t : Word) : (s.callTo r t).outTrace = s.outTrace := by
  simp [State.callTo]
@[simp] theorem State.callTo_ioReads (s : State) (r t : Word) : (s.callTo r t).ioReads = s.ioReads := by
  simp [State.callTo]
@[simp] theorem State.callTo_params (s : State) (r t : Word) : (s.callTo r t).params = s.params := by
  simp [State.callTo]
@[simp] theorem State.callTo_env (s : State) (r t : Word) : (s.callTo r t).env = s.env := by
  simp [State.callTo]
@[simp] theorem State.callTo_draws (s : State) (r t : Word) : (s.callTo r t).draws = s.draws := by
  simp [State.callTo]

/-! #### `returnTo` -/

@[simp] theorem State.returnTo_regs (s : State) : s.returnTo.regs = s.regs := by
  simp [State.returnTo]
@[simp] theorem State.returnTo_sp (s : State) : s.returnTo.sp = s.sp + 2 := by
  simp [State.returnTo]
@[simp] theorem State.returnTo_flags (s : State) : s.returnTo.flags = s.flags := by
  simp [State.returnTo]
@[simp] theorem State.returnTo_inte (s : State) : s.returnTo.inte = s.inte := by
  simp [State.returnTo]
@[simp] theorem State.returnTo_halted (s : State) : s.returnTo.halted = s.halted := by
  simp [State.returnTo]
@[simp] theorem State.returnTo_eiShadow (s : State) : s.returnTo.eiShadow = s.eiShadow := by
  simp [State.returnTo]
@[simp] theorem State.returnTo_mem (s : State) : s.returnTo.mem = s.mem := by
  simp [State.returnTo]
@[simp] theorem State.returnTo_outTrace (s : State) : s.returnTo.outTrace = s.outTrace := by
  simp [State.returnTo]
@[simp] theorem State.returnTo_ioReads (s : State) : s.returnTo.ioReads = s.ioReads := by
  simp [State.returnTo]
@[simp] theorem State.returnTo_params (s : State) : s.returnTo.params = s.params := by
  simp [State.returnTo]
@[simp] theorem State.returnTo_env (s : State) : s.returnTo.env = s.env := by
  simp [State.returnTo]

/-- What every address holds after a push (R71, R150). -/
theorem State.read_pushBytes (s : State) (x y : Byte) (b : Word) :
    Memory.read (s.pushBytes x y).mem b =
      if b = s.sp - 2 ∧ s.kind (s.sp - 2) = .ram then y
      else if b = s.sp - 1 ∧ s.kind (s.sp - 1) = .ram then x else Memory.read s.mem b := by
  simp [State.pushBytes, State.read_writeByte]

/-- A push keeps the canonical form. -/
theorem State.pushBytes_wf {s : State} (h : Memory.wf s.mem) (x y : Byte) : Memory.wf (s.pushBytes x y).mem :=
  State.writeByte_wf (State.writeByte_wf h _ _) _ _

/-- What every address holds after a call (R125, R241). -/
theorem State.read_callTo (s : State) (r t b : Word) :
    Memory.read (s.callTo r t).mem b =
      if b = s.sp - 2 ∧ s.kind (s.sp - 2) = .ram then loByte r
      else if b = s.sp - 1 ∧ s.kind (s.sp - 1) = .ram then hiByte r else Memory.read s.mem b := by
  simp [State.callTo, State.push16, State.read_pushBytes]

/-- A call keeps the canonical form. -/
theorem State.callTo_wf {s : State} (h : Memory.wf s.mem) (r t : Word) : Memory.wf (s.callTo r t).mem :=
  State.pushBytes_wf h _ _

/-- A return goes where the two bytes at SP and SP+1 say (R250). -/
theorem State.returnTo_pc (s : State) : s.returnTo.pc = (s.readWord s.sp).1 := rfl

/-! ### The ports (R72) -/

/-! #### `portRead` -/

@[simp] theorem State.portRead_regs (s : State) (p : Byte) : (s.portRead p).2.regs = s.regs := by
  rfl
@[simp] theorem State.portRead_sp (s : State) (p : Byte) : (s.portRead p).2.sp = s.sp := by
  rfl
@[simp] theorem State.portRead_pc (s : State) (p : Byte) : (s.portRead p).2.pc = s.pc := by
  rfl
@[simp] theorem State.portRead_flags (s : State) (p : Byte) : (s.portRead p).2.flags = s.flags := by
  rfl
@[simp] theorem State.portRead_inte (s : State) (p : Byte) : (s.portRead p).2.inte = s.inte := by
  rfl
@[simp] theorem State.portRead_halted (s : State) (p : Byte) : (s.portRead p).2.halted = s.halted := by
  rfl
@[simp] theorem State.portRead_eiShadow (s : State) (p : Byte) : (s.portRead p).2.eiShadow = s.eiShadow := by
  rfl
@[simp] theorem State.portRead_mem (s : State) (p : Byte) : (s.portRead p).2.mem = s.mem := by
  rfl
@[simp] theorem State.portRead_outTrace (s : State) (p : Byte) : (s.portRead p).2.outTrace = s.outTrace := by
  rfl
@[simp] theorem State.portRead_ioReads (s : State) (p : Byte) : (s.portRead p).2.ioReads = s.ioReads + 1 := by
  rfl
@[simp] theorem State.portRead_params (s : State) (p : Byte) : (s.portRead p).2.params = s.params := by
  rfl
@[simp] theorem State.portRead_env (s : State) (p : Byte) : (s.portRead p).2.env = s.env := by
  rfl
@[simp] theorem State.portRead_draws (s : State) (p : Byte) : (s.portRead p).2.draws = s.draws := by
  rfl

/-! #### `portWrite` -/

@[simp] theorem State.portWrite_regs (s : State) (p v : Byte) : (s.portWrite p v).regs = s.regs := by
  rfl
@[simp] theorem State.portWrite_sp (s : State) (p v : Byte) : (s.portWrite p v).sp = s.sp := by
  rfl
@[simp] theorem State.portWrite_pc (s : State) (p v : Byte) : (s.portWrite p v).pc = s.pc := by
  rfl
@[simp] theorem State.portWrite_flags (s : State) (p v : Byte) : (s.portWrite p v).flags = s.flags := by
  rfl
@[simp] theorem State.portWrite_inte (s : State) (p v : Byte) : (s.portWrite p v).inte = s.inte := by
  rfl
@[simp] theorem State.portWrite_halted (s : State) (p v : Byte) : (s.portWrite p v).halted = s.halted := by
  rfl
@[simp] theorem State.portWrite_eiShadow (s : State) (p v : Byte) : (s.portWrite p v).eiShadow = s.eiShadow := by
  rfl
@[simp] theorem State.portWrite_mem (s : State) (p v : Byte) : (s.portWrite p v).mem = s.mem := by
  rfl
@[simp] theorem State.portWrite_outTrace (s : State) (p v : Byte) : (s.portWrite p v).outTrace = s.outTrace ++ [(p, v)] := by
  rfl
@[simp] theorem State.portWrite_ioReads (s : State) (p v : Byte) : (s.portWrite p v).ioReads = s.ioReads := by
  rfl
@[simp] theorem State.portWrite_params (s : State) (p v : Byte) : (s.portWrite p v).params = s.params := by
  rfl
@[simp] theorem State.portWrite_env (s : State) (p v : Byte) : (s.portWrite p v).env = s.env := by
  rfl
@[simp] theorem State.portWrite_draws (s : State) (p v : Byte) : (s.portWrite p v).draws = s.draws := by
  rfl

/-! ### Operands -/

/-! #### `setA` -/

@[simp] theorem State.setA_regs (s : State) (v : Byte) : (s.setA v).regs = { s.regs with a := v } := by
  rfl
@[simp] theorem State.setA_sp (s : State) (v : Byte) : (s.setA v).sp = s.sp := by
  rfl
@[simp] theorem State.setA_pc (s : State) (v : Byte) : (s.setA v).pc = s.pc := by
  rfl
@[simp] theorem State.setA_flags (s : State) (v : Byte) : (s.setA v).flags = s.flags := by
  rfl
@[simp] theorem State.setA_inte (s : State) (v : Byte) : (s.setA v).inte = s.inte := by
  rfl
@[simp] theorem State.setA_halted (s : State) (v : Byte) : (s.setA v).halted = s.halted := by
  rfl
@[simp] theorem State.setA_eiShadow (s : State) (v : Byte) : (s.setA v).eiShadow = s.eiShadow := by
  rfl
@[simp] theorem State.setA_mem (s : State) (v : Byte) : (s.setA v).mem = s.mem := by
  rfl
@[simp] theorem State.setA_outTrace (s : State) (v : Byte) : (s.setA v).outTrace = s.outTrace := by
  rfl
@[simp] theorem State.setA_ioReads (s : State) (v : Byte) : (s.setA v).ioReads = s.ioReads := by
  rfl
@[simp] theorem State.setA_params (s : State) (v : Byte) : (s.setA v).params = s.params := by
  rfl
@[simp] theorem State.setA_env (s : State) (v : Byte) : (s.setA v).env = s.env := by
  rfl
@[simp] theorem State.setA_draws (s : State) (v : Byte) : (s.setA v).draws = s.draws := by
  rfl

/-! #### `readOperand` -/

@[simp] theorem State.readOperand_regs (s : State) (r : Reg8) : (s.readOperand r).2.regs = s.regs := by
  cases r <;> simp [State.readOperand]
@[simp] theorem State.readOperand_sp (s : State) (r : Reg8) : (s.readOperand r).2.sp = s.sp := by
  cases r <;> simp [State.readOperand]
@[simp] theorem State.readOperand_pc (s : State) (r : Reg8) : (s.readOperand r).2.pc = s.pc := by
  cases r <;> simp [State.readOperand]
@[simp] theorem State.readOperand_flags (s : State) (r : Reg8) : (s.readOperand r).2.flags = s.flags := by
  cases r <;> simp [State.readOperand]
@[simp] theorem State.readOperand_inte (s : State) (r : Reg8) : (s.readOperand r).2.inte = s.inte := by
  cases r <;> simp [State.readOperand]
@[simp] theorem State.readOperand_halted (s : State) (r : Reg8) : (s.readOperand r).2.halted = s.halted := by
  cases r <;> simp [State.readOperand]
@[simp] theorem State.readOperand_eiShadow (s : State) (r : Reg8) : (s.readOperand r).2.eiShadow = s.eiShadow := by
  cases r <;> simp [State.readOperand]
@[simp] theorem State.readOperand_mem (s : State) (r : Reg8) : (s.readOperand r).2.mem = s.mem := by
  cases r <;> simp [State.readOperand]
@[simp] theorem State.readOperand_outTrace (s : State) (r : Reg8) : (s.readOperand r).2.outTrace = s.outTrace := by
  cases r <;> simp [State.readOperand]
@[simp] theorem State.readOperand_ioReads (s : State) (r : Reg8) : (s.readOperand r).2.ioReads = s.ioReads := by
  cases r <;> simp [State.readOperand]
@[simp] theorem State.readOperand_params (s : State) (r : Reg8) : (s.readOperand r).2.params = s.params := by
  cases r <;> simp [State.readOperand]
@[simp] theorem State.readOperand_env (s : State) (r : Reg8) : (s.readOperand r).2.env = s.env := by
  cases r <;> simp [State.readOperand]

/-! #### `writeOperand` -/

@[simp] theorem State.writeOperand_sp (s : State) (r : Reg8) (v : Byte) : (s.writeOperand r v).sp = s.sp := by
  cases r <;> simp [State.writeOperand]
@[simp] theorem State.writeOperand_pc (s : State) (r : Reg8) (v : Byte) : (s.writeOperand r v).pc = s.pc := by
  cases r <;> simp [State.writeOperand]
@[simp] theorem State.writeOperand_flags (s : State) (r : Reg8) (v : Byte) : (s.writeOperand r v).flags = s.flags := by
  cases r <;> simp [State.writeOperand]
@[simp] theorem State.writeOperand_inte (s : State) (r : Reg8) (v : Byte) : (s.writeOperand r v).inte = s.inte := by
  cases r <;> simp [State.writeOperand]
@[simp] theorem State.writeOperand_halted (s : State) (r : Reg8) (v : Byte) : (s.writeOperand r v).halted = s.halted := by
  cases r <;> simp [State.writeOperand]
@[simp] theorem State.writeOperand_eiShadow (s : State) (r : Reg8) (v : Byte) : (s.writeOperand r v).eiShadow = s.eiShadow := by
  cases r <;> simp [State.writeOperand]
@[simp] theorem State.writeOperand_outTrace (s : State) (r : Reg8) (v : Byte) : (s.writeOperand r v).outTrace = s.outTrace := by
  cases r <;> simp [State.writeOperand]
@[simp] theorem State.writeOperand_ioReads (s : State) (r : Reg8) (v : Byte) : (s.writeOperand r v).ioReads = s.ioReads := by
  cases r <;> simp [State.writeOperand]
@[simp] theorem State.writeOperand_params (s : State) (r : Reg8) (v : Byte) : (s.writeOperand r v).params = s.params := by
  cases r <;> simp [State.writeOperand]
@[simp] theorem State.writeOperand_env (s : State) (r : Reg8) (v : Byte) : (s.writeOperand r v).env = s.env := by
  cases r <;> simp [State.writeOperand]
@[simp] theorem State.writeOperand_draws (s : State) (r : Reg8) (v : Byte) : (s.writeOperand r v).draws = s.draws := by
  cases r <;> simp [State.writeOperand]

/-! #### `writePair` -/

@[simp] theorem State.writePair_pc (s : State) (p : PairA) (v : Word) : (s.writePair p v).pc = s.pc := by
  cases p <;> simp [State.writePair]
@[simp] theorem State.writePair_flags (s : State) (p : PairA) (v : Word) : (s.writePair p v).flags = s.flags := by
  cases p <;> simp [State.writePair]
@[simp] theorem State.writePair_inte (s : State) (p : PairA) (v : Word) : (s.writePair p v).inte = s.inte := by
  cases p <;> simp [State.writePair]
@[simp] theorem State.writePair_halted (s : State) (p : PairA) (v : Word) : (s.writePair p v).halted = s.halted := by
  cases p <;> simp [State.writePair]
@[simp] theorem State.writePair_eiShadow (s : State) (p : PairA) (v : Word) : (s.writePair p v).eiShadow = s.eiShadow := by
  cases p <;> simp [State.writePair]
@[simp] theorem State.writePair_mem (s : State) (p : PairA) (v : Word) : (s.writePair p v).mem = s.mem := by
  cases p <;> simp [State.writePair]
@[simp] theorem State.writePair_outTrace (s : State) (p : PairA) (v : Word) : (s.writePair p v).outTrace = s.outTrace := by
  cases p <;> simp [State.writePair]
@[simp] theorem State.writePair_ioReads (s : State) (p : PairA) (v : Word) : (s.writePair p v).ioReads = s.ioReads := by
  cases p <;> simp [State.writePair]
@[simp] theorem State.writePair_params (s : State) (p : PairA) (v : Word) : (s.writePair p v).params = s.params := by
  cases p <;> simp [State.writePair]
@[simp] theorem State.writePair_env (s : State) (p : PairA) (v : Word) : (s.writePair p v).env = s.env := by
  cases p <;> simp [State.writePair]
@[simp] theorem State.writePair_draws (s : State) (p : PairA) (v : Word) : (s.writePair p v).draws = s.draws := by
  cases p <;> simp [State.writePair]

/-! #### `popOperand` -/

@[simp] theorem State.popOperand_sp (s : State) (p : PairS) (x y : Byte) : (s.popOperand p x y).sp = s.sp := by
  cases p <;> (unfold State.popOperand; dsimp only; try split) <;> rfl
@[simp] theorem State.popOperand_pc (s : State) (p : PairS) (x y : Byte) : (s.popOperand p x y).pc = s.pc := by
  cases p <;> (unfold State.popOperand; dsimp only; try split) <;> rfl
@[simp] theorem State.popOperand_inte (s : State) (p : PairS) (x y : Byte) : (s.popOperand p x y).inte = s.inte := by
  cases p <;> (unfold State.popOperand; dsimp only; try split) <;> rfl
@[simp] theorem State.popOperand_halted (s : State) (p : PairS) (x y : Byte) : (s.popOperand p x y).halted = s.halted := by
  cases p <;> (unfold State.popOperand; dsimp only; try split) <;> rfl
@[simp] theorem State.popOperand_eiShadow (s : State) (p : PairS) (x y : Byte) : (s.popOperand p x y).eiShadow = s.eiShadow := by
  cases p <;> (unfold State.popOperand; dsimp only; try split) <;> rfl
@[simp] theorem State.popOperand_mem (s : State) (p : PairS) (x y : Byte) : (s.popOperand p x y).mem = s.mem := by
  cases p <;> (unfold State.popOperand; dsimp only; try split) <;> rfl
@[simp] theorem State.popOperand_outTrace (s : State) (p : PairS) (x y : Byte) : (s.popOperand p x y).outTrace = s.outTrace := by
  cases p <;> (unfold State.popOperand; dsimp only; try split) <;> rfl
@[simp] theorem State.popOperand_ioReads (s : State) (p : PairS) (x y : Byte) : (s.popOperand p x y).ioReads = s.ioReads := by
  cases p <;> (unfold State.popOperand; dsimp only; try split) <;> rfl
@[simp] theorem State.popOperand_params (s : State) (p : PairS) (x y : Byte) : (s.popOperand p x y).params = s.params := by
  cases p <;> (unfold State.popOperand; dsimp only; try split) <;> rfl
@[simp] theorem State.popOperand_env (s : State) (p : PairS) (x y : Byte) : (s.popOperand p x y).env = s.env := by
  cases p <;> (unfold State.popOperand; dsimp only; try split) <;> rfl
@[simp] theorem State.popOperand_draws (s : State) (p : PairS) (x y : Byte) : (s.popOperand p x y).draws = s.draws := by
  cases p <;> (unfold State.popOperand; dsimp only; try split) <;> rfl

/-- A read of an operand: a register or M where there is memory changes nothing (R21). -/
theorem State.readOperand_register {s : State} {r : Reg8} (h : r ≠ .m) : (s.readOperand r).2 = s := by
  cases r <;> simp [State.readOperand] at h ⊢

/-- What every address holds after an operand is written: only M is in memory (R21). -/
theorem State.read_writeOperand (s : State) (r : Reg8) (v : Byte) (b : Word) :
    Memory.read (s.writeOperand r v).mem b =
      if r = .m ∧ b = s.regs.hl ∧ s.kind s.regs.hl = .ram then v else Memory.read s.mem b := by
  cases r <;> simp [State.writeOperand, State.read_writeByte]

/-- The write of an operand keeps the canonical form. -/
theorem State.writeOperand_wf {s : State} (h : Memory.wf s.mem) (r : Reg8) (v : Byte) :
    Memory.wf (s.writeOperand r v).mem := by
  cases r <;> first | exact State.writeByte_wf h _ _ | exact h

/-! ### The accumulator, the rotates, the branches -/

/-! #### `countAcDraw` -/

@[simp] theorem State.countAcDraw_regs (s : State) : s.countAcDraw.regs = s.regs := by
  unfold State.countAcDraw; split <;> rfl
@[simp] theorem State.countAcDraw_sp (s : State) : s.countAcDraw.sp = s.sp := by
  unfold State.countAcDraw; split <;> rfl
@[simp] theorem State.countAcDraw_pc (s : State) : s.countAcDraw.pc = s.pc := by
  unfold State.countAcDraw; split <;> rfl
@[simp] theorem State.countAcDraw_flags (s : State) : s.countAcDraw.flags = s.flags := by
  unfold State.countAcDraw; split <;> rfl
@[simp] theorem State.countAcDraw_inte (s : State) : s.countAcDraw.inte = s.inte := by
  unfold State.countAcDraw; split <;> rfl
@[simp] theorem State.countAcDraw_halted (s : State) : s.countAcDraw.halted = s.halted := by
  unfold State.countAcDraw; split <;> rfl
@[simp] theorem State.countAcDraw_eiShadow (s : State) : s.countAcDraw.eiShadow = s.eiShadow := by
  unfold State.countAcDraw; split <;> rfl
@[simp] theorem State.countAcDraw_mem (s : State) : s.countAcDraw.mem = s.mem := by
  unfold State.countAcDraw; split <;> rfl
@[simp] theorem State.countAcDraw_outTrace (s : State) : s.countAcDraw.outTrace = s.outTrace := by
  unfold State.countAcDraw; split <;> rfl
@[simp] theorem State.countAcDraw_ioReads (s : State) : s.countAcDraw.ioReads = s.ioReads := by
  unfold State.countAcDraw; split <;> rfl
@[simp] theorem State.countAcDraw_params (s : State) : s.countAcDraw.params = s.params := by
  unfold State.countAcDraw; split <;> rfl
@[simp] theorem State.countAcDraw_env (s : State) : s.countAcDraw.env = s.env := by
  unfold State.countAcDraw; split <;> rfl

/-! #### `addToA` -/

@[simp] theorem State.addToA_sp (s : State) (b : Byte) (c : Bool) : (s.addToA b c).sp = s.sp := by
  rfl
@[simp] theorem State.addToA_pc (s : State) (b : Byte) (c : Bool) : (s.addToA b c).pc = s.pc := by
  rfl
@[simp] theorem State.addToA_inte (s : State) (b : Byte) (c : Bool) : (s.addToA b c).inte = s.inte := by
  rfl
@[simp] theorem State.addToA_halted (s : State) (b : Byte) (c : Bool) : (s.addToA b c).halted = s.halted := by
  rfl
@[simp] theorem State.addToA_eiShadow (s : State) (b : Byte) (c : Bool) : (s.addToA b c).eiShadow = s.eiShadow := by
  rfl
@[simp] theorem State.addToA_mem (s : State) (b : Byte) (c : Bool) : (s.addToA b c).mem = s.mem := by
  rfl
@[simp] theorem State.addToA_outTrace (s : State) (b : Byte) (c : Bool) : (s.addToA b c).outTrace = s.outTrace := by
  rfl
@[simp] theorem State.addToA_ioReads (s : State) (b : Byte) (c : Bool) : (s.addToA b c).ioReads = s.ioReads := by
  rfl
@[simp] theorem State.addToA_params (s : State) (b : Byte) (c : Bool) : (s.addToA b c).params = s.params := by
  rfl
@[simp] theorem State.addToA_env (s : State) (b : Byte) (c : Bool) : (s.addToA b c).env = s.env := by
  rfl
@[simp] theorem State.addToA_draws (s : State) (b : Byte) (c : Bool) : (s.addToA b c).draws = s.draws := by
  rfl

/-! #### `subFromA` -/

@[simp] theorem State.subFromA_sp (s : State) (b : Byte) (c : Bool) : (s.subFromA b c).sp = s.sp := by
  rfl
@[simp] theorem State.subFromA_pc (s : State) (b : Byte) (c : Bool) : (s.subFromA b c).pc = s.pc := by
  rfl
@[simp] theorem State.subFromA_inte (s : State) (b : Byte) (c : Bool) : (s.subFromA b c).inte = s.inte := by
  rfl
@[simp] theorem State.subFromA_halted (s : State) (b : Byte) (c : Bool) : (s.subFromA b c).halted = s.halted := by
  rfl
@[simp] theorem State.subFromA_eiShadow (s : State) (b : Byte) (c : Bool) : (s.subFromA b c).eiShadow = s.eiShadow := by
  rfl
@[simp] theorem State.subFromA_mem (s : State) (b : Byte) (c : Bool) : (s.subFromA b c).mem = s.mem := by
  rfl
@[simp] theorem State.subFromA_outTrace (s : State) (b : Byte) (c : Bool) : (s.subFromA b c).outTrace = s.outTrace := by
  rfl
@[simp] theorem State.subFromA_ioReads (s : State) (b : Byte) (c : Bool) : (s.subFromA b c).ioReads = s.ioReads := by
  rfl
@[simp] theorem State.subFromA_params (s : State) (b : Byte) (c : Bool) : (s.subFromA b c).params = s.params := by
  rfl
@[simp] theorem State.subFromA_env (s : State) (b : Byte) (c : Bool) : (s.subFromA b c).env = s.env := by
  rfl
@[simp] theorem State.subFromA_draws (s : State) (b : Byte) (c : Bool) : (s.subFromA b c).draws = s.draws := by
  rfl

/-! #### `logicOnA` -/

@[simp] theorem State.logicOnA_sp (s : State) (k : LogicKind) (b : Byte) : (s.logicOnA k b).sp = s.sp := by
  simp [State.logicOnA]
@[simp] theorem State.logicOnA_pc (s : State) (k : LogicKind) (b : Byte) : (s.logicOnA k b).pc = s.pc := by
  simp [State.logicOnA]
@[simp] theorem State.logicOnA_inte (s : State) (k : LogicKind) (b : Byte) : (s.logicOnA k b).inte = s.inte := by
  simp [State.logicOnA]
@[simp] theorem State.logicOnA_halted (s : State) (k : LogicKind) (b : Byte) : (s.logicOnA k b).halted = s.halted := by
  simp [State.logicOnA]
@[simp] theorem State.logicOnA_eiShadow (s : State) (k : LogicKind) (b : Byte) : (s.logicOnA k b).eiShadow = s.eiShadow := by
  simp [State.logicOnA]
@[simp] theorem State.logicOnA_mem (s : State) (k : LogicKind) (b : Byte) : (s.logicOnA k b).mem = s.mem := by
  simp [State.logicOnA]
@[simp] theorem State.logicOnA_outTrace (s : State) (k : LogicKind) (b : Byte) : (s.logicOnA k b).outTrace = s.outTrace := by
  simp [State.logicOnA]
@[simp] theorem State.logicOnA_ioReads (s : State) (k : LogicKind) (b : Byte) : (s.logicOnA k b).ioReads = s.ioReads := by
  simp [State.logicOnA]
@[simp] theorem State.logicOnA_params (s : State) (k : LogicKind) (b : Byte) : (s.logicOnA k b).params = s.params := by
  simp [State.logicOnA]
@[simp] theorem State.logicOnA_env (s : State) (k : LogicKind) (b : Byte) : (s.logicOnA k b).env = s.env := by
  simp [State.logicOnA]

/-! #### `compareA` -/

@[simp] theorem State.compareA_regs (s : State) (b : Byte) : (s.compareA b).regs = s.regs := by
  simp [State.compareA]
@[simp] theorem State.compareA_sp (s : State) (b : Byte) : (s.compareA b).sp = s.sp := by
  simp [State.compareA]
@[simp] theorem State.compareA_pc (s : State) (b : Byte) : (s.compareA b).pc = s.pc := by
  simp [State.compareA]
@[simp] theorem State.compareA_inte (s : State) (b : Byte) : (s.compareA b).inte = s.inte := by
  simp [State.compareA]
@[simp] theorem State.compareA_halted (s : State) (b : Byte) : (s.compareA b).halted = s.halted := by
  simp [State.compareA]
@[simp] theorem State.compareA_eiShadow (s : State) (b : Byte) : (s.compareA b).eiShadow = s.eiShadow := by
  simp [State.compareA]
@[simp] theorem State.compareA_mem (s : State) (b : Byte) : (s.compareA b).mem = s.mem := by
  simp [State.compareA]
@[simp] theorem State.compareA_outTrace (s : State) (b : Byte) : (s.compareA b).outTrace = s.outTrace := by
  simp [State.compareA]
@[simp] theorem State.compareA_ioReads (s : State) (b : Byte) : (s.compareA b).ioReads = s.ioReads := by
  simp [State.compareA]
@[simp] theorem State.compareA_params (s : State) (b : Byte) : (s.compareA b).params = s.params := by
  simp [State.compareA]
@[simp] theorem State.compareA_env (s : State) (b : Byte) : (s.compareA b).env = s.env := by
  simp [State.compareA]

/-! #### `setRotated` -/

@[simp] theorem State.setRotated_regs (s : State) (x : Byte × Bool) : (s.setRotated x).regs = { s.regs with a := x.1 } := by
  rfl
@[simp] theorem State.setRotated_sp (s : State) (x : Byte × Bool) : (s.setRotated x).sp = s.sp := by
  rfl
@[simp] theorem State.setRotated_pc (s : State) (x : Byte × Bool) : (s.setRotated x).pc = s.pc := by
  rfl
@[simp] theorem State.setRotated_flags (s : State) (x : Byte × Bool) : (s.setRotated x).flags = { s.flags with cy := x.2 } := by
  rfl
@[simp] theorem State.setRotated_inte (s : State) (x : Byte × Bool) : (s.setRotated x).inte = s.inte := by
  rfl
@[simp] theorem State.setRotated_halted (s : State) (x : Byte × Bool) : (s.setRotated x).halted = s.halted := by
  rfl
@[simp] theorem State.setRotated_eiShadow (s : State) (x : Byte × Bool) : (s.setRotated x).eiShadow = s.eiShadow := by
  rfl
@[simp] theorem State.setRotated_mem (s : State) (x : Byte × Bool) : (s.setRotated x).mem = s.mem := by
  rfl
@[simp] theorem State.setRotated_outTrace (s : State) (x : Byte × Bool) : (s.setRotated x).outTrace = s.outTrace := by
  rfl
@[simp] theorem State.setRotated_ioReads (s : State) (x : Byte × Bool) : (s.setRotated x).ioReads = s.ioReads := by
  rfl
@[simp] theorem State.setRotated_params (s : State) (x : Byte × Bool) : (s.setRotated x).params = s.params := by
  rfl
@[simp] theorem State.setRotated_env (s : State) (x : Byte × Bool) : (s.setRotated x).env = s.env := by
  rfl
@[simp] theorem State.setRotated_draws (s : State) (x : Byte × Bool) : (s.setRotated x).draws = s.draws := by
  rfl

/-! #### `modifyOperand` -/

@[simp] theorem State.modifyOperand_sp (s : State) (r : Reg8) (f : Byte → Flags → Byte × Flags) : (s.modifyOperand r f).sp = s.sp := by
  simp [State.modifyOperand]
@[simp] theorem State.modifyOperand_pc (s : State) (r : Reg8) (f : Byte → Flags → Byte × Flags) : (s.modifyOperand r f).pc = s.pc := by
  simp [State.modifyOperand]
@[simp] theorem State.modifyOperand_inte (s : State) (r : Reg8) (f : Byte → Flags → Byte × Flags) : (s.modifyOperand r f).inte = s.inte := by
  simp [State.modifyOperand]
@[simp] theorem State.modifyOperand_halted (s : State) (r : Reg8) (f : Byte → Flags → Byte × Flags) : (s.modifyOperand r f).halted = s.halted := by
  simp [State.modifyOperand]
@[simp] theorem State.modifyOperand_eiShadow (s : State) (r : Reg8) (f : Byte → Flags → Byte × Flags) : (s.modifyOperand r f).eiShadow = s.eiShadow := by
  simp [State.modifyOperand]
@[simp] theorem State.modifyOperand_outTrace (s : State) (r : Reg8) (f : Byte → Flags → Byte × Flags) : (s.modifyOperand r f).outTrace = s.outTrace := by
  simp [State.modifyOperand]
@[simp] theorem State.modifyOperand_ioReads (s : State) (r : Reg8) (f : Byte → Flags → Byte × Flags) : (s.modifyOperand r f).ioReads = s.ioReads := by
  simp [State.modifyOperand]
@[simp] theorem State.modifyOperand_params (s : State) (r : Reg8) (f : Byte → Flags → Byte × Flags) : (s.modifyOperand r f).params = s.params := by
  simp [State.modifyOperand]
@[simp] theorem State.modifyOperand_env (s : State) (r : Reg8) (f : Byte → Flags → Byte × Flags) : (s.modifyOperand r f).env = s.env := by
  simp [State.modifyOperand]

/-! #### `jumpIf` -/

@[simp] theorem State.jumpIf_regs (s : State) (k : Cond) (a : Word) : (s.jumpIf k a).regs = s.regs := by
  unfold State.jumpIf; split <;> rfl
@[simp] theorem State.jumpIf_sp (s : State) (k : Cond) (a : Word) : (s.jumpIf k a).sp = s.sp := by
  unfold State.jumpIf; split <;> rfl
@[simp] theorem State.jumpIf_flags (s : State) (k : Cond) (a : Word) : (s.jumpIf k a).flags = s.flags := by
  unfold State.jumpIf; split <;> rfl
@[simp] theorem State.jumpIf_inte (s : State) (k : Cond) (a : Word) : (s.jumpIf k a).inte = s.inte := by
  unfold State.jumpIf; split <;> rfl
@[simp] theorem State.jumpIf_halted (s : State) (k : Cond) (a : Word) : (s.jumpIf k a).halted = s.halted := by
  unfold State.jumpIf; split <;> rfl
@[simp] theorem State.jumpIf_eiShadow (s : State) (k : Cond) (a : Word) : (s.jumpIf k a).eiShadow = s.eiShadow := by
  unfold State.jumpIf; split <;> rfl
@[simp] theorem State.jumpIf_mem (s : State) (k : Cond) (a : Word) : (s.jumpIf k a).mem = s.mem := by
  unfold State.jumpIf; split <;> rfl
@[simp] theorem State.jumpIf_outTrace (s : State) (k : Cond) (a : Word) : (s.jumpIf k a).outTrace = s.outTrace := by
  unfold State.jumpIf; split <;> rfl
@[simp] theorem State.jumpIf_ioReads (s : State) (k : Cond) (a : Word) : (s.jumpIf k a).ioReads = s.ioReads := by
  unfold State.jumpIf; split <;> rfl
@[simp] theorem State.jumpIf_params (s : State) (k : Cond) (a : Word) : (s.jumpIf k a).params = s.params := by
  unfold State.jumpIf; split <;> rfl
@[simp] theorem State.jumpIf_env (s : State) (k : Cond) (a : Word) : (s.jumpIf k a).env = s.env := by
  unfold State.jumpIf; split <;> rfl
@[simp] theorem State.jumpIf_draws (s : State) (k : Cond) (a : Word) : (s.jumpIf k a).draws = s.draws := by
  unfold State.jumpIf; split <;> rfl

/-! #### `callIf` -/

@[simp] theorem State.callIf_regs (s : State) (k : Cond) (a : Word) : (s.callIf k a).regs = s.regs := by
  unfold State.callIf; split <;> simp
@[simp] theorem State.callIf_flags (s : State) (k : Cond) (a : Word) : (s.callIf k a).flags = s.flags := by
  unfold State.callIf; split <;> simp
@[simp] theorem State.callIf_inte (s : State) (k : Cond) (a : Word) : (s.callIf k a).inte = s.inte := by
  unfold State.callIf; split <;> simp
@[simp] theorem State.callIf_halted (s : State) (k : Cond) (a : Word) : (s.callIf k a).halted = s.halted := by
  unfold State.callIf; split <;> simp
@[simp] theorem State.callIf_eiShadow (s : State) (k : Cond) (a : Word) : (s.callIf k a).eiShadow = s.eiShadow := by
  unfold State.callIf; split <;> simp
@[simp] theorem State.callIf_outTrace (s : State) (k : Cond) (a : Word) : (s.callIf k a).outTrace = s.outTrace := by
  unfold State.callIf; split <;> simp
@[simp] theorem State.callIf_ioReads (s : State) (k : Cond) (a : Word) : (s.callIf k a).ioReads = s.ioReads := by
  unfold State.callIf; split <;> simp
@[simp] theorem State.callIf_params (s : State) (k : Cond) (a : Word) : (s.callIf k a).params = s.params := by
  unfold State.callIf; split <;> simp
@[simp] theorem State.callIf_env (s : State) (k : Cond) (a : Word) : (s.callIf k a).env = s.env := by
  unfold State.callIf; split <;> simp
@[simp] theorem State.callIf_draws (s : State) (k : Cond) (a : Word) : (s.callIf k a).draws = s.draws := by
  unfold State.callIf; split <;> simp

/-! #### `returnIf` -/

@[simp] theorem State.returnIf_regs (s : State) (k : Cond) : (s.returnIf k).regs = s.regs := by
  unfold State.returnIf; split <;> simp
@[simp] theorem State.returnIf_flags (s : State) (k : Cond) : (s.returnIf k).flags = s.flags := by
  unfold State.returnIf; split <;> simp
@[simp] theorem State.returnIf_inte (s : State) (k : Cond) : (s.returnIf k).inte = s.inte := by
  unfold State.returnIf; split <;> simp
@[simp] theorem State.returnIf_halted (s : State) (k : Cond) : (s.returnIf k).halted = s.halted := by
  unfold State.returnIf; split <;> simp
@[simp] theorem State.returnIf_eiShadow (s : State) (k : Cond) : (s.returnIf k).eiShadow = s.eiShadow := by
  unfold State.returnIf; split <;> simp
@[simp] theorem State.returnIf_mem (s : State) (k : Cond) : (s.returnIf k).mem = s.mem := by
  unfold State.returnIf; split <;> simp
@[simp] theorem State.returnIf_outTrace (s : State) (k : Cond) : (s.returnIf k).outTrace = s.outTrace := by
  unfold State.returnIf; split <;> simp
@[simp] theorem State.returnIf_ioReads (s : State) (k : Cond) : (s.returnIf k).ioReads = s.ioReads := by
  unfold State.returnIf; split <;> simp
@[simp] theorem State.returnIf_params (s : State) (k : Cond) : (s.returnIf k).params = s.params := by
  unfold State.returnIf; split <;> simp
@[simp] theorem State.returnIf_env (s : State) (k : Cond) : (s.returnIf k).env = s.env := by
  unfold State.returnIf; split <;> simp

/-- A conditional jump does one of two things (R230). -/
theorem State.jumpIf_cases (s : State) (k : Cond) (a : Word) :
    (s.flags.holds k = true ∧ s.jumpIf k a = s.setPc a) ∨ (s.flags.holds k = false ∧ s.jumpIf k a = s.advance 3) := by
  unfold State.jumpIf
  cases s.flags.holds k <;> simp

/-- A conditional call does one of two things (R230). -/
theorem State.callIf_cases (s : State) (k : Cond) (a : Word) :
    (s.flags.holds k = true ∧ s.callIf k a = s.callTo (s.pc + 3) a) ∨
      (s.flags.holds k = false ∧ s.callIf k a = s.advance 3) := by
  unfold State.callIf
  cases s.flags.holds k <;> simp

/-- A conditional return does one of two things (R230). -/
theorem State.returnIf_cases (s : State) (k : Cond) :
    (s.flags.holds k = true ∧ s.returnIf k = s.returnTo) ∨ (s.flags.holds k = false ∧ s.returnIf k = s.advance 1) := by
  unfold State.returnIf
  cases s.flags.holds k <;> simp

/-! ### The interrupt and reset -/

/-! #### `takeInterrupt` -/

@[simp] theorem State.takeInterrupt_regs (s : State) (n : BitVec 3) : (s.takeInterrupt n).regs = s.regs := by
  simp [State.takeInterrupt]
@[simp] theorem State.takeInterrupt_sp (s : State) (n : BitVec 3) : (s.takeInterrupt n).sp = s.sp - 2 := by
  simp [State.takeInterrupt]
@[simp] theorem State.takeInterrupt_pc (s : State) (n : BitVec 3) : (s.takeInterrupt n).pc = rstTarget n := by
  simp [State.takeInterrupt]
@[simp] theorem State.takeInterrupt_flags (s : State) (n : BitVec 3) : (s.takeInterrupt n).flags = s.flags := by
  simp [State.takeInterrupt]
@[simp] theorem State.takeInterrupt_inte (s : State) (n : BitVec 3) : (s.takeInterrupt n).inte = false := by
  simp [State.takeInterrupt]
@[simp] theorem State.takeInterrupt_halted (s : State) (n : BitVec 3) : (s.takeInterrupt n).halted = false := by
  simp [State.takeInterrupt]
@[simp] theorem State.takeInterrupt_eiShadow (s : State) (n : BitVec 3) : (s.takeInterrupt n).eiShadow = false := by
  simp [State.takeInterrupt]
@[simp] theorem State.takeInterrupt_outTrace (s : State) (n : BitVec 3) : (s.takeInterrupt n).outTrace = s.outTrace := by
  simp [State.takeInterrupt]
@[simp] theorem State.takeInterrupt_ioReads (s : State) (n : BitVec 3) : (s.takeInterrupt n).ioReads = s.ioReads := by
  simp [State.takeInterrupt]
@[simp] theorem State.takeInterrupt_params (s : State) (n : BitVec 3) : (s.takeInterrupt n).params = s.params := by
  simp [State.takeInterrupt]
@[simp] theorem State.takeInterrupt_env (s : State) (n : BitVec 3) : (s.takeInterrupt n).env = s.env := by
  simp [State.takeInterrupt]
@[simp] theorem State.takeInterrupt_draws (s : State) (n : BitVec 3) : (s.takeInterrupt n).draws = s.draws := by
  simp [State.takeInterrupt]

/-! #### `resetMove` -/

@[simp] theorem State.resetMove_regs (s : State) (k : ResetKind) : (s.resetMove k).regs = resetRegs s.draws := by
  rfl
@[simp] theorem State.resetMove_sp (s : State) (k : ResetKind) : (s.resetMove k).sp = resetSp s.draws := by
  rfl
@[simp] theorem State.resetMove_pc (s : State) (k : ResetKind) : (s.resetMove k).pc = s.params.resetPc := by
  rfl
@[simp] theorem State.resetMove_flags (s : State) (k : ResetKind) : (s.resetMove k).flags = resetFlags s.draws := by
  rfl
@[simp] theorem State.resetMove_inte (s : State) (k : ResetKind) : (s.resetMove k).inte = false := by
  rfl
@[simp] theorem State.resetMove_halted (s : State) (k : ResetKind) : (s.resetMove k).halted = false := by
  rfl
@[simp] theorem State.resetMove_eiShadow (s : State) (k : ResetKind) : (s.resetMove k).eiShadow = false := by
  rfl
@[simp] theorem State.resetMove_mem (s : State) (k : ResetKind) : (s.resetMove k).mem = s.resetMem k := by
  rfl
@[simp] theorem State.resetMove_outTrace (s : State) (k : ResetKind) : (s.resetMove k).outTrace = s.outTrace := by
  rfl
@[simp] theorem State.resetMove_ioReads (s : State) (k : ResetKind) : (s.resetMove k).ioReads = s.ioReads := by
  rfl
@[simp] theorem State.resetMove_params (s : State) (k : ResetKind) : (s.resetMove k).params = s.params := by
  rfl
@[simp] theorem State.resetMove_env (s : State) (k : ResetKind) : (s.resetMove k).env = s.env := by
  rfl
@[simp] theorem State.resetMove_draws (s : State) (k : ResetKind) : (s.resetMove k).draws = s.draws + 1 := by
  rfl

/-- What every address holds after the entry to an interrupt: PC, not advanced, is on the stack (R274). -/
theorem State.read_takeInterrupt (s : State) (n : BitVec 3) (b : Word) :
    Memory.read (s.takeInterrupt n).mem b =
      if b = s.sp - 2 ∧ s.kind (s.sp - 2) = .ram then loByte s.pc
      else if b = s.sp - 1 ∧ s.kind (s.sp - 1) = .ram then hiByte s.pc else Memory.read s.mem b :=
  State.read_callTo _ _ _ b

/-- The entry to an interrupt keeps the canonical form. -/
theorem State.takeInterrupt_wf {s : State} (h : Memory.wf s.mem) (n : BitVec 3) : Memory.wf (s.takeInterrupt n).mem :=
  State.callTo_wf (s := ((s.setInte false).setHalted false).setEiShadow false) h _ _

/-- A reset keeps the canonical form. -/
theorem State.resetMem_wf {s : State} (h : Memory.wf s.mem) (k : ResetKind) : Memory.wf (s.resetMem k) := by
  cases k
  · exact h
  · exact Memory.ofFn_wf _

/-! ### The fetch -/

/-! #### `fetch` -/

@[simp] theorem State.fetch_regs (s : State) : s.fetch.2.regs = s.regs := by
  unfold State.fetch; dsimp only; split <;> split <;> simp
@[simp] theorem State.fetch_sp (s : State) : s.fetch.2.sp = s.sp := by
  unfold State.fetch; dsimp only; split <;> split <;> simp
@[simp] theorem State.fetch_pc (s : State) : s.fetch.2.pc = s.pc := by
  unfold State.fetch; dsimp only; split <;> split <;> simp
@[simp] theorem State.fetch_flags (s : State) : s.fetch.2.flags = s.flags := by
  unfold State.fetch; dsimp only; split <;> split <;> simp
@[simp] theorem State.fetch_inte (s : State) : s.fetch.2.inte = s.inte := by
  unfold State.fetch; dsimp only; split <;> split <;> simp
@[simp] theorem State.fetch_halted (s : State) : s.fetch.2.halted = s.halted := by
  unfold State.fetch; dsimp only; split <;> split <;> simp
@[simp] theorem State.fetch_eiShadow (s : State) : s.fetch.2.eiShadow = s.eiShadow := by
  unfold State.fetch; dsimp only; split <;> split <;> simp
@[simp] theorem State.fetch_mem (s : State) : s.fetch.2.mem = s.mem := by
  unfold State.fetch; dsimp only; split <;> split <;> simp
@[simp] theorem State.fetch_outTrace (s : State) : s.fetch.2.outTrace = s.outTrace := by
  unfold State.fetch; dsimp only; split <;> split <;> simp
@[simp] theorem State.fetch_ioReads (s : State) : s.fetch.2.ioReads = s.ioReads := by
  unfold State.fetch; dsimp only; split <;> split <;> simp
@[simp] theorem State.fetch_params (s : State) : s.fetch.2.params = s.params := by
  unfold State.fetch; dsimp only; split <;> split <;> simp
@[simp] theorem State.fetch_env (s : State) : s.fetch.2.env = s.env := by
  unfold State.fetch; dsimp only; split <;> split <;> simp

/-- What one step can do: a reset, the entry to an interrupt, nothing (halted), an instruction, or a refusal. -/
theorem step_cases (s : State) :
    (∃ k, s.boundary.reset = some k ∧ step s = .next ((s.setEnv s.env.tail).resetMove k)) ∨
      (s.boundary.reset = none ∧
        ((∃ b, s.boundary.offer = some b ∧ (s.setEnv s.env.tail).accepts = true ∧
            ((isRstByte b = true ∧ step s = .next ((s.setEnv s.env.tail).takeInterrupt (rstNumber b))) ∨
              (isRstByte b = false ∧ step s = .refused (.interruptNotRst b)))) ∨
          ((s.boundary.offer = none ∨ (s.setEnv s.env.tail).accepts = false) ∧
            ((s.halted = true ∧ step s = .next (s.setEnv s.env.tail)) ∨
              (s.halted = false ∧
                ((∃ i, (s.setEnv s.env.tail).fetch.1 = .ok i ∧
                    step s = exec i ((s.setEnv s.env.tail).fetch.2.setEiShadow false)) ∨
                  (∃ why, (s.setEnv s.env.tail).fetch.1 = .error why ∧ step s = .refused (.rejected why)))))))) := by
  have hp : (s.setEnv s.env.tail).processorStep =
      if s.halted then .next (s.setEnv s.env.tail) else
        match (s.setEnv s.env.tail).fetch with
        | (.ok i, t) => exec i (t.setEiShadow false)
        | (.error why, _) => .refused (.rejected why) := rfl
  have hproc : (s.halted = true ∧ (s.setEnv s.env.tail).processorStep = .next (s.setEnv s.env.tail)) ∨
      (s.halted = false ∧
        ((∃ i, (s.setEnv s.env.tail).fetch.1 = .ok i ∧
            (s.setEnv s.env.tail).processorStep = exec i ((s.setEnv s.env.tail).fetch.2.setEiShadow false)) ∨
          (∃ why, (s.setEnv s.env.tail).fetch.1 = .error why ∧
            (s.setEnv s.env.tail).processorStep = .refused (.rejected why)))) := by
    cases hh : s.halted
    · right
      refine ⟨rfl, ?_⟩
      rw [hp]
      rcases hf : (s.setEnv s.env.tail).fetch with ⟨r, t⟩
      cases r <;> simp [hh]
    · left
      simp [hp, hh]
  have hs : step s = s.move := rfl
  unfold State.move at hs
  dsimp only at hs
  cases hr : s.boundary.reset with
  | some k => exact .inl ⟨k, rfl, by rw [hs, hr]⟩
  | none =>
    right
    refine ⟨rfl, ?_⟩
    rw [hr] at hs
    cases ho : s.boundary.offer with
    | none =>
      right
      simp only [ho] at hs
      rw [hs]
      exact ⟨.inl rfl, hproc⟩
    | some b =>
      simp only [ho] at hs
      cases ha : (s.setEnv s.env.tail).accepts
      · right
        simp only [ha] at hs
        rw [hs]
        exact ⟨.inr rfl, hproc⟩
      · left
        refine ⟨b, rfl, rfl, ?_⟩
        simp only [ha, if_true] at hs
        rw [hs]
        unfold State.acceptOffer
        cases isRstByte b <;> simp

end Sys2Proof.Machine
end

