-- ==== Sys2Proof/Laws/PerInstr.lean ====
section
/-! SUPPORT. What holds of every instruction as a term, one lemma per constructor. -/

namespace Sys2Proof.Laws.EncodingLength

/-- The encoder writes as many bytes as the first byte it writes says the instruction has (R90). -/
def Statement (i : Instr) : Prop := ∃ b1 rest, encode i = b1 :: rest ∧ (encode i).length = instrLength b1

theorem inPort (port : Byte) : Statement (.inPort port) := ⟨_, _, rfl, rfl⟩

theorem outPort (port : Byte) : Statement (.outPort port) := ⟨_, _, rfl, rfl⟩

theorem ei : Statement (.ei) := ⟨_, _, rfl, rfl⟩

theorem di : Statement (.di) := ⟨_, _, rfl, rfl⟩

theorem hlt : Statement (.hlt) := ⟨_, _, rfl, rfl⟩

theorem rst (n : BitVec 3) : Statement (.rst n) := by
  refine ⟨_, _, rfl, ?_⟩
  revert n
  decide

theorem cmc : Statement (.cmc) := ⟨_, _, rfl, rfl⟩

theorem stc : Statement (.stc) := ⟨_, _, rfl, rfl⟩

theorem nop : Statement (.nop) := ⟨_, _, rfl, rfl⟩

theorem inr (r : Reg8) : Statement (.inr r) := by
  cases r <;> exact ⟨_, _, rfl, rfl⟩

theorem dcr (r : Reg8) : Statement (.dcr r) := by
  cases r <;> exact ⟨_, _, rfl, rfl⟩

theorem cma : Statement (.cma) := ⟨_, _, rfl, rfl⟩

theorem daa : Statement (.daa) := ⟨_, _, rfl, rfl⟩

theorem push (p : PairS) : Statement (.push p) := by
  cases p <;> exact ⟨_, _, rfl, rfl⟩

theorem pop (p : PairS) : Statement (.pop p) := by
  cases p <;> exact ⟨_, _, rfl, rfl⟩

theorem dad (p : PairA) : Statement (.dad p) := by
  cases p <;> exact ⟨_, _, rfl, rfl⟩

theorem inx (p : PairA) : Statement (.inx p) := by
  cases p <;> exact ⟨_, _, rfl, rfl⟩

theorem dcx (p : PairA) : Statement (.dcx p) := by
  cases p <;> exact ⟨_, _, rfl, rfl⟩

theorem xchg : Statement (.xchg) := ⟨_, _, rfl, rfl⟩

theorem xthl : Statement (.xthl) := ⟨_, _, rfl, rfl⟩

theorem sphl : Statement (.sphl) := ⟨_, _, rfl, rfl⟩

theorem rlc : Statement (.rlc) := ⟨_, _, rfl, rfl⟩

theorem rrc : Statement (.rrc) := ⟨_, _, rfl, rfl⟩

theorem ral : Statement (.ral) := ⟨_, _, rfl, rfl⟩

theorem rar : Statement (.rar) := ⟨_, _, rfl, rfl⟩

theorem mov (dst src : Reg8) : Statement (.mov dst src) := by
  cases dst <;> cases src <;> exact ⟨_, _, rfl, rfl⟩

theorem stax (x : PairX) : Statement (.stax x) := by
  cases x <;> exact ⟨_, _, rfl, rfl⟩

theorem ldax (x : PairX) : Statement (.ldax x) := by
  cases x <;> exact ⟨_, _, rfl, rfl⟩

theorem add (r : Reg8) : Statement (.add r) := by
  cases r <;> exact ⟨_, _, rfl, rfl⟩

theorem adc (r : Reg8) : Statement (.adc r) := by
  cases r <;> exact ⟨_, _, rfl, rfl⟩

theorem sub (r : Reg8) : Statement (.sub r) := by
  cases r <;> exact ⟨_, _, rfl, rfl⟩

theorem sbb (r : Reg8) : Statement (.sbb r) := by
  cases r <;> exact ⟨_, _, rfl, rfl⟩

theorem ana (r : Reg8) : Statement (.ana r) := by
  cases r <;> exact ⟨_, _, rfl, rfl⟩

theorem xra (r : Reg8) : Statement (.xra r) := by
  cases r <;> exact ⟨_, _, rfl, rfl⟩

theorem ora (r : Reg8) : Statement (.ora r) := by
  cases r <;> exact ⟨_, _, rfl, rfl⟩

theorem cmp (r : Reg8) : Statement (.cmp r) := by
  cases r <;> exact ⟨_, _, rfl, rfl⟩

theorem sta (addr : Word) : Statement (.sta addr) := ⟨_, _, rfl, rfl⟩

theorem lda (addr : Word) : Statement (.lda addr) := ⟨_, _, rfl, rfl⟩

theorem shld (addr : Word) : Statement (.shld addr) := ⟨_, _, rfl, rfl⟩

theorem lhld (addr : Word) : Statement (.lhld addr) := ⟨_, _, rfl, rfl⟩

theorem lxi (p : PairA) (d16 : Word) : Statement (.lxi p d16) := by
  cases p <;> exact ⟨_, _, rfl, rfl⟩

theorem mvi (r : Reg8) (d8 : Byte) : Statement (.mvi r d8) := by
  cases r <;> exact ⟨_, _, rfl, rfl⟩

theorem adi (d8 : Byte) : Statement (.adi d8) := ⟨_, _, rfl, rfl⟩

theorem aci (d8 : Byte) : Statement (.aci d8) := ⟨_, _, rfl, rfl⟩

theorem sui (d8 : Byte) : Statement (.sui d8) := ⟨_, _, rfl, rfl⟩

theorem sbi (d8 : Byte) : Statement (.sbi d8) := ⟨_, _, rfl, rfl⟩

theorem ani (d8 : Byte) : Statement (.ani d8) := ⟨_, _, rfl, rfl⟩

theorem xri (d8 : Byte) : Statement (.xri d8) := ⟨_, _, rfl, rfl⟩

theorem ori (d8 : Byte) : Statement (.ori d8) := ⟨_, _, rfl, rfl⟩

theorem cpi (d8 : Byte) : Statement (.cpi d8) := ⟨_, _, rfl, rfl⟩

theorem pchl : Statement (.pchl) := ⟨_, _, rfl, rfl⟩

theorem jmp (addr : Word) : Statement (.jmp addr) := ⟨_, _, rfl, rfl⟩

theorem jc (addr : Word) : Statement (.jc addr) := ⟨_, _, rfl, rfl⟩

theorem jnc (addr : Word) : Statement (.jnc addr) := ⟨_, _, rfl, rfl⟩

theorem jz (addr : Word) : Statement (.jz addr) := ⟨_, _, rfl, rfl⟩

theorem jnz (addr : Word) : Statement (.jnz addr) := ⟨_, _, rfl, rfl⟩

theorem jm (addr : Word) : Statement (.jm addr) := ⟨_, _, rfl, rfl⟩

theorem jp (addr : Word) : Statement (.jp addr) := ⟨_, _, rfl, rfl⟩

theorem jpe (addr : Word) : Statement (.jpe addr) := ⟨_, _, rfl, rfl⟩

theorem jpo (addr : Word) : Statement (.jpo addr) := ⟨_, _, rfl, rfl⟩

theorem call (addr : Word) : Statement (.call addr) := ⟨_, _, rfl, rfl⟩

theorem cc (addr : Word) : Statement (.cc addr) := ⟨_, _, rfl, rfl⟩

theorem cnc (addr : Word) : Statement (.cnc addr) := ⟨_, _, rfl, rfl⟩

theorem cz (addr : Word) : Statement (.cz addr) := ⟨_, _, rfl, rfl⟩

theorem cnz (addr : Word) : Statement (.cnz addr) := ⟨_, _, rfl, rfl⟩

theorem cm (addr : Word) : Statement (.cm addr) := ⟨_, _, rfl, rfl⟩

theorem cp (addr : Word) : Statement (.cp addr) := ⟨_, _, rfl, rfl⟩

theorem cpe (addr : Word) : Statement (.cpe addr) := ⟨_, _, rfl, rfl⟩

theorem cpo (addr : Word) : Statement (.cpo addr) := ⟨_, _, rfl, rfl⟩

theorem ret : Statement (.ret) := ⟨_, _, rfl, rfl⟩

theorem rc : Statement (.rc) := ⟨_, _, rfl, rfl⟩

theorem rnc : Statement (.rnc) := ⟨_, _, rfl, rfl⟩

theorem rz : Statement (.rz) := ⟨_, _, rfl, rfl⟩

theorem rnz : Statement (.rnz) := ⟨_, _, rfl, rfl⟩

theorem rm : Statement (.rm) := ⟨_, _, rfl, rfl⟩

theorem rp : Statement (.rp) := ⟨_, _, rfl, rfl⟩

theorem rpe : Statement (.rpe) := ⟨_, _, rfl, rfl⟩

theorem rpo : Statement (.rpo) := ⟨_, _, rfl, rfl⟩

end Sys2Proof.Laws.EncodingLength
end

