-- ==== Sys2Proof/Laws/Run.lean ====
section
/-! SUPPORT. Runs, one step at a time, and the host's runs. -/

namespace Sys2Proof.Machine

theorem State.runsTo_zero (s t : State) : s.runsTo 0 t ↔ s = t := Iff.rfl

theorem State.runsTo_succ (s t : State) (n : Nat) : s.runsTo (n + 1) t ↔ ∃ u, step s = .next u ∧ u.runsTo n t := Iff.rfl

/-- A run of the host's machine, one step at a time. -/
theorem host_run_succ (M : Host.Core) (n : Nat) (s t : M.State) :
    M.run (n + 1) s = .next t ↔ ∃ u, M.step s = .next u ∧ M.run n u = .next t := by
  rw [Host.Core.run]
  cases M.step s <;> simp

/-- A run in these terms is a run of the host's machine. -/
theorem State.runsTo_iff (n : Nat) (s t : State) : s.runsTo n t ↔ Host.Core.run Sys2Proof.core n s = .next t := by
  induction n generalizing s with
  | zero => exact ⟨fun h => congrArg Host.Outcome.next h, fun h => Host.Outcome.next.inj h⟩
  | succ n ih =>
    exact ⟨fun ⟨u, h, hu⟩ => (host_run_succ Sys2Proof.core n s t).mpr ⟨u, h, (ih u).mp hu⟩,
      fun h => let ⟨u, hs, hu⟩ := (host_run_succ Sys2Proof.core n s t).mp h
        ⟨u, hs, (ih u).mpr hu⟩⟩

end Sys2Proof.Machine
end

