-- ==== Sys2Proof/Laws/Word.lean ====
section
/-! SUPPORT. The laws of the helpers over bytes, words and status bits. -/

namespace Sys2Proof

/-- A word is its high byte times 256 plus its low byte. -/
theorem wordOf_toNat (hi lo : Byte) : (wordOf hi lo).toNat = hi.toNat * 256 + lo.toNat := by
  have h := @BitVec.toNat_append 8 8 hi lo
  have hl := lo.isLt
  rw [show (wordOf hi lo).toNat = (@HAppend.hAppend (BitVec 8) (BitVec 8) (BitVec (8 + 8)) _ hi lo).toNat from rfl, h,
    Nat.shiftLeft_eq, Nat.mul_comm, ← Nat.two_pow_add_eq_or_of_lt hl]

theorem hiByte_toNat (w : Word) : (hiByte w).toNat = w.toNat / 256 := by
  have := w.isLt
  simp [hiByte, Nat.shiftRight_eq_div_pow]
  omega

theorem loByte_toNat (w : Word) : (loByte w).toNat = w.toNat % 256 := by simp [loByte]

@[simp] theorem hiByte_wordOf (hi lo : Byte) : hiByte (wordOf hi lo) = hi := by
  apply BitVec.eq_of_toNat_eq
  have := lo.isLt
  rw [hiByte_toNat, wordOf_toNat]
  omega

@[simp] theorem loByte_wordOf (hi lo : Byte) : loByte (wordOf hi lo) = lo := by
  apply BitVec.eq_of_toNat_eq
  have := lo.isLt
  rw [loByte_toNat, wordOf_toNat]
  omega

@[simp] theorem wordOf_hiByte_loByte (w : Word) : wordOf (hiByte w) (loByte w) = w := by
  apply BitVec.eq_of_toNat_eq
  rw [wordOf_toNat, hiByte_toNat, loByte_toNat]
  omega

namespace Machine

@[simp] theorem Flags.szp_s (f : Flags) (v : Byte) : (f.szp v).s = v.getLsbD 7 := rfl
@[simp] theorem Flags.szp_z (f : Flags) (v : Byte) : (f.szp v).z = (v == 0) := rfl
@[simp] theorem Flags.szp_p (f : Flags) (v : Byte) : (f.szp v).p = evenParity v := rfl
@[simp] theorem Flags.szp_ac (f : Flags) (v : Byte) : (f.szp v).ac = f.ac := rfl
@[simp] theorem Flags.szp_cy (f : Flags) (v : Byte) : (f.szp v).cy = f.cy := rfl

/-- A byte with the layout of the Status Bit Register loads the status bits it was formed from (R33). -/
@[simp] theorem Flags.ofByte_toByte (f : Flags) : Flags.ofByte f.toByte = f := by
  rcases f with ⟨s, z, ac, p, cy⟩
  revert s z ac p cy
  decide

end Machine

end Sys2Proof
end

