-- ==== Sys2Proof/Tests/Slice0.lean ====
section
/-! SUPPORT. Tests: the check of well-formedness, the decoding of words written out from the encoding tables, one step of each instruction
with the values of 95_test_vectors.md, and for each statement with hypotheses a state that meets them. -/

namespace Sys2Proof.Tests

open Machine Config Claims

/-! ### Helpers -/

/-- Memory with the bytes `bs` from address `a` up. -/
def poked (m : Memory) (a : Word) : List Byte → Memory
  | [] => m
  | b :: bs => poked (Memory.write m a b) (a + 1) bs

/-- The state after reset with the bytes `bs` at 0x0100, PC there, and SP at 0x2000. -/
def boot (bs : List Byte) : State := { State.reset with pc := 0x0100, sp := 0x2000, mem := poked [] 0x0100 bs }

/-- `s` with the bytes `bs` from address `a` up. -/
def withBytes (s : State) (a : Word) (bs : List Byte) : State := { s with mem := poked s.mem a bs }

/-- The five status bits, written S Z AC P CY. -/
def bits (v : BitVec 5) : Flags :=
  { s := v.getLsbD 4, z := v.getLsbD 3, ac := v.getLsbD 2, p := v.getLsbD 1, cy := v.getLsbD 0 }

/-- The step from `s` answers a next state of which `p` holds. -/
def after (s : State) (p : State → Bool) : Bool :=
  match step s with
  | .next t => p t
  | _ => false

/-- The same registers, all of them, but for A. -/
def sameButA (r q : Regs) : Bool := r == { q with a := r.a }

/-- The bytes decode to the instruction, and the instruction encodes to them. -/
def coded (i : Instr) (bs : List Byte) : Bool :=
  (match decode (bs.getD 0 0) (bs.getD 1 0) (bs.getD 2 0) with
    | .ok j => j == i
    | .error _ => false) && encode i == bs

/-! ### Well-formedness -/

theorem test_mov_m_m_refused : ¬ (Instr.mov .m .m).WellFormed := by decide
theorem test_mov_b_b_accepted : (Instr.mov .b .b).WellFormed := by decide
theorem test_mov_pattern_of_hlt : coded .hlt [0b01110110] = true := by decide

/-! ### Decoding: words written out from the patterns of R98, every instruction once -/

theorem test_decode_command :
    (coded (.inPort 0xA5) [0b11011011, 0b10100101] &&
      coded (.outPort 0xA5) [0b11010011, 0b10100101] &&
      coded .ei [0b11111011] &&
      coded .di [0b11110011] &&
      coded .hlt [0b01110110] &&
      coded (.rst 5) [0b11101111] &&
      coded .cmc [0b00111111] &&
      coded .stc [0b00110111] &&
      coded .nop [0b00000000]) = true := by decide

theorem test_decode_single_register :
    (coded (.inr .e) [0b00011100] &&
      coded (.dcr .m) [0b00110101] &&
      coded .cma [0b00101111] &&
      coded .daa [0b00100111]) = true := by decide

theorem test_decode_register_pair :
    (coded (.push .psw) [0b11110101] &&
      coded (.pop .de) [0b11010001] &&
      coded (.dad .sp) [0b00111001] &&
      coded (.inx .hl) [0b00100011] &&
      coded (.dcx .de) [0b00011011] &&
      coded .xchg [0b11101011] &&
      coded .xthl [0b11100011] &&
      coded .sphl [0b11111001]) = true := by decide

theorem test_decode_rotate :
    (coded .rlc [0b00000111] &&
      coded .rrc [0b00001111] &&
      coded .ral [0b00010111] &&
      coded .rar [0b00011111]) = true := by decide

theorem test_decode_data_transfer :
    (coded (.mov .a .c) [0b01111001] &&
      coded (.stax .de) [0b00010010] &&
      coded (.ldax .bc) [0b00001010] &&
      coded (.add .h) [0b10000100] &&
      coded (.adc .l) [0b10001101] &&
      coded (.sub .d) [0b10010010] &&
      coded (.sbb .b) [0b10011000] &&
      coded (.ana .e) [0b10100011] &&
      coded (.xra .m) [0b10101110] &&
      coded (.ora .a) [0b10110111] &&
      coded (.cmp .c) [0b10111001] &&
      coded (.sta 0x7545) [0b00110010, 0b01000101, 0b01110101] &&
      coded (.lda 0x7545) [0b00111010, 0b01000101, 0b01110101] &&
      coded (.shld 0x7545) [0b00100010, 0b01000101, 0b01110101] &&
      coded (.lhld 0x7545) [0b00101010, 0b01000101, 0b01110101]) = true := by decide

theorem test_decode_immediate :
    (coded (.lxi .bc 0x7545) [0b00000001, 0b01000101, 0b01110101] &&
      coded (.mvi .h 0xA5) [0b00100110, 0b10100101] &&
      coded (.adi 0xA5) [0b11000110, 0b10100101] &&
      coded (.aci 0xA5) [0b11001110, 0b10100101] &&
      coded (.sui 0xA5) [0b11010110, 0b10100101] &&
      coded (.sbi 0xA5) [0b11011110, 0b10100101] &&
      coded (.ani 0xA5) [0b11100110, 0b10100101] &&
      coded (.xri 0xA5) [0b11101110, 0b10100101] &&
      coded (.ori 0xA5) [0b11110110, 0b10100101] &&
      coded (.cpi 0xA5) [0b11111110, 0b10100101]) = true := by decide

theorem test_decode_branch_1 :
    (coded .pchl [0b11101001] &&
      coded (.jmp 0x7545) [0b11000011, 0b01000101, 0b01110101] &&
      coded (.jc 0x7545) [0b11011010, 0b01000101, 0b01110101] &&
      coded (.jnc 0x7545) [0b11010010, 0b01000101, 0b01110101] &&
      coded (.jz 0x7545) [0b11001010, 0b01000101, 0b01110101] &&
      coded (.jnz 0x7545) [0b11000010, 0b01000101, 0b01110101] &&
      coded (.jm 0x7545) [0b11111010, 0b01000101, 0b01110101] &&
      coded (.jp 0x7545) [0b11110010, 0b01000101, 0b01110101] &&
      coded (.jpe 0x7545) [0b11101010, 0b01000101, 0b01110101] &&
      coded (.jpo 0x7545) [0b11100010, 0b01000101, 0b01110101] &&
      coded (.call 0x7545) [0b11001101, 0b01000101, 0b01110101] &&
      coded (.cc 0x7545) [0b11011100, 0b01000101, 0b01110101] &&
      coded (.cnc 0x7545) [0b11010100, 0b01000101, 0b01110101] &&
      coded (.cz 0x7545) [0b11001100, 0b01000101, 0b01110101] &&
      coded (.cnz 0x7545) [0b11000100, 0b01000101, 0b01110101] &&
      coded (.cm 0x7545) [0b11111100, 0b01000101, 0b01110101]) = true := by decide

theorem test_decode_branch_2 :
    (coded (.cp 0x7545) [0b11110100, 0b01000101, 0b01110101] &&
      coded (.cpe 0x7545) [0b11101100, 0b01000101, 0b01110101] &&
      coded (.cpo 0x7545) [0b11100100, 0b01000101, 0b01110101] &&
      coded .ret [0b11001001] &&
      coded .rc [0b11011000] &&
      coded .rnc [0b11010000] &&
      coded .rz [0b11001000] &&
      coded .rnz [0b11000000] &&
      coded .rm [0b11111000] &&
      coded .rp [0b11110000] &&
      coded .rpe [0b11101000] &&
      coded .rpo [0b11100000]) = true := by decide

/-! ### One step of each instruction (95_test_vectors.md, but where a comment says otherwise) -/

-- command instructions
theorem test_in_loads_the_free_byte :
    ∃ t, step (boot [0xDB, 0x10]) = .next t ∧ t.regs.a = ioRead 0x10 0 ∧ t.ioReads = 1 ∧ t.pc = 0x0102 := ⟨_, rfl, rfl, rfl, rfl⟩
theorem test_out : after { boot [0xD3, 0x01] with regs := { State.reset.regs with a := 0x48 } }
    (fun t => t.outTrace == [(0x01, 0x48)] && t.pc == 0x0102) = true := by decide
theorem test_ei : after (boot [0xFB]) (fun t => t.inte && !t.eiShadow && t.pc == 0x0101) = true := by decide
-- R285
theorem test_ei_delay : after { boot [0xFB] with params := { eiDelay := true } } (fun t => t.inte && t.eiShadow) = true := by
  decide
theorem test_di : after { boot [0xF3] with inte := true } (fun t => !t.inte && t.pc == 0x0101) = true := by decide
theorem test_hlt : after (boot [0x76]) (fun t => t.halted && t.pc == 0x0101) = true := by decide
theorem test_rst_7_wraps : after { withBytes State.reset 0xABCD [0xFF] with pc := 0xABCD, sp := 0x0001 }
    (fun t => t.pc == 0x0038 && t.sp == 0xFFFF && Memory.read t.mem 0x0000 == 0xAB && Memory.read t.mem 0xFFFF == 0xCE) =
      true := by decide
theorem test_cmc : after { boot [0x3F] with flags := bits 0b11111 } (fun t => t.flags == bits 0b11110) = true := by decide
theorem test_stc : after (boot [0x37]) (fun t => t.flags == bits 0b00001) = true := by decide
theorem test_nop : after (boot [0x00]) (fun t => t == { boot [0x00] with pc := 0x0101 }) = true := by decide

-- single register instructions
theorem test_inr_a : after { boot [0x3C] with regs := { State.reset.regs with a := 0xFF } }
    (fun t => t.regs.a == 0x00 && t.flags == bits 0b01110) = true := by decide
theorem test_inr_m : after { withBytes (boot [0x34]) 0x2000 [0x99] with regs := { State.reset.regs with h := 0x20 } }
    (fun t => Memory.read t.mem 0x2000 == 0x9A && t.flags == bits 0b10010) = true := by decide
theorem test_dcr_a : after { boot [0x3D] with regs := { State.reset.regs with a := 0x00 } }
    (fun t => t.regs.a == 0xFF && t.flags == bits 0b10010) = true := by decide
theorem test_dcr_h : after { boot [0x25] with regs := { State.reset.regs with h := 0x80 } }
    (fun t => t.regs.h == 0x7F && t.flags == bits 0b00000) = true := by decide
theorem test_cma : after { boot [0x2F] with regs := { State.reset.regs with a := 0xCC }, flags := bits 0b11111 }
    (fun t => t.regs.a == 0x33 && t.flags == bits 0b11111) = true := by decide
theorem test_daa_9b : after { boot [0x27] with regs := { State.reset.regs with a := 0x9B } }
    (fun t => t.regs.a == 0x01 && t.flags == bits 0b00101) = true := by decide
theorem test_daa_12 : after { boot [0x27] with regs := { State.reset.regs with a := 0x12 }, flags := bits 0b00101 }
    (fun t => t.regs.a == 0x78 && t.flags == bits 0b00011) = true := by decide

-- register pair instructions
theorem test_push_psw : after { boot [0xF5] with regs := { State.reset.regs with a := 0x3C }, flags := bits 0b10101 }
    (fun t => t.sp == 0x1FFE && Memory.read t.mem 0x1FFF == 0x93 && Memory.read t.mem 0x1FFE == 0x3C) = true := by decide
-- PSW_ORDER = a_high (R150)
theorem test_push_psw_a_high :
    after { boot [0xF5] with
        regs := { State.reset.regs with a := 0x3C }, flags := bits 0b10101, params := { pswOrder := .aHigh } }
      (fun t => Memory.read t.mem 0x1FFF == 0x3C && Memory.read t.mem 0x1FFE == 0x93) = true := by decide
theorem test_pop_bc_wraps : after { withBytes (boot [0xC1]) 0xFFFF [0x34, 0x12] with sp := 0xFFFF }
    (fun t => t.regs.b == 0x12 && t.regs.c == 0x34 && t.sp == 0x0001) = true := by decide
theorem test_pop_psw_byte_28 : after { withBytes (boot [0xF1]) 0x1FFE [0x77, 0x28] with sp := 0x1FFE, flags := bits 0b11111 }
    (fun t => t.regs.a == 0x77 && t.flags == bits 0b00000) = true := by decide
theorem test_dad_de : after { boot [0x19] with
      regs := { State.reset.regs with d := 0x00, e := 0x01, h := 0xFF, l := 0xFF }, flags := bits 0b10110 }
    (fun t => t.regs.h == 0x00 && t.regs.l == 0x00 && t.flags == bits 0b10111) = true := by decide
theorem test_inx_bc : after { boot [0x03] with regs := { State.reset.regs with b := 0x00, c := 0xFF } }
    (fun t => t.regs.b == 0x01 && t.regs.c == 0x00 && t.flags == bits 0b00000) = true := by decide
theorem test_dcx_de : after { boot [0x1B] with regs := { State.reset.regs with d := 0x01, e := 0x00 } }
    (fun t => t.regs.d == 0x00 && t.regs.e == 0xFF) = true := by decide
theorem test_xchg : after { boot [0xEB] with regs := { State.reset.regs with h := 0x12, l := 0x34, d := 0x56, e := 0x78 } }
    (fun t => t.regs == { State.reset.regs with h := 0x56, l := 0x78, d := 0x12, e := 0x34 }) = true := by decide
theorem test_xthl : after { withBytes (boot [0xE3]) 0x1FFE [0x11, 0x22] with
      sp := 0x1FFE, regs := { State.reset.regs with h := 0x8F, l := 0x83 } }
    (fun t => t.regs.h == 0x22 && t.regs.l == 0x11 && t.sp == 0x1FFE && Memory.read t.mem 0x1FFE == 0x83 &&
      Memory.read t.mem 0x1FFF == 0x8F) = true := by decide
theorem test_sphl : after { boot [0xF9] with regs := { State.reset.regs with h := 0x8F, l := 0x83 } }
    (fun t => t.sp == 0x8F83 && t.pc == 0x0101) = true := by decide

-- rotate instructions
theorem test_rlc : after { boot [0x07] with regs := { State.reset.regs with a := 0x88 } }
    (fun t => t.regs.a == 0x11 && t.flags == bits 0b00001) = true := by decide
theorem test_rrc : after { boot [0x0F] with regs := { State.reset.regs with a := 0x01 } }
    (fun t => t.regs.a == 0x80 && t.flags == bits 0b00001) = true := by decide
theorem test_ral : after { boot [0x17] with regs := { State.reset.regs with a := 0x88 }, flags := bits 0b11111 }
    (fun t => t.regs.a == 0x11 && t.flags == bits 0b11111) = true := by decide
theorem test_rar : after { boot [0x1F] with regs := { State.reset.regs with a := 0x88 }, flags := bits 0b11111 }
    (fun t => t.regs.a == 0xC4 && t.flags == bits 0b11110) = true := by decide

-- data transfer instructions
theorem test_mov_h_m : after { withBytes (boot [0x66]) 0x2010 [0x30] with
      regs := { State.reset.regs with h := 0x20, l := 0x10 } }
    (fun t => t.regs.h == 0x30 && t.regs.l == 0x10) = true := by decide
theorem test_mov_m_h : after { boot [0x74] with regs := { State.reset.regs with h := 0x20, l := 0x10 } }
    (fun t => Memory.read t.mem 0x2010 == 0x20) = true := by decide
theorem test_stax_de : after { boot [0x12] with regs := { State.reset.regs with a := 0x77, d := 0x30, e := 0x10 } }
    (fun t => Memory.read t.mem 0x3010 == 0x77) = true := by decide
theorem test_ldax_bc : after { withBytes (boot [0x0A]) 0x2000 [0x9C] with regs := { State.reset.regs with b := 0x20 } }
    (fun t => t.regs.a == 0x9C && t.flags == bits 0b00000) = true := by decide
theorem test_add_b : after { boot [0x80] with regs := { State.reset.regs with a := 0x62, b := 0xD4 } }
    (fun t => t.regs.a == 0x36 && t.flags == bits 0b00011) = true := by decide
theorem test_add_m : after { withBytes (boot [0x86]) 0x2000 [0x01] with
      regs := { State.reset.regs with a := 0xFF, h := 0x20 } }
    (fun t => t.regs.a == 0x00 && t.flags == bits 0b01111) = true := by decide
theorem test_adc_c : after { boot [0x89] with regs := { State.reset.regs with a := 0x5C, c := 0x23 }, flags := bits 0b00001 }
    (fun t => t.regs.a == 0x80 && t.flags == bits 0b10100) = true := by decide
theorem test_sub_b : after { boot [0x90] with regs := { State.reset.regs with a := 0x00, b := 0x01 } }
    (fun t => t.regs.a == 0xFF && t.flags == bits 0b10011) = true := by decide
theorem test_sub_e : after { boot [0x93] with regs := { State.reset.regs with a := 0x05, e := 0x00 } }
    (fun t => t.regs.a == 0x05 && t.flags == bits 0b00110) = true := by decide
theorem test_sbb_c : after { boot [0x99] with regs := { State.reset.regs with a := 0x00, c := 0xFF }, flags := bits 0b00001 }
    (fun t => t.regs.a == 0x00 && t.flags == bits 0b01011) = true := by decide
theorem test_ana_l : after { boot [0xA5] with regs := { State.reset.regs with a := 0x85, l := 0x8C }, flags := bits 0b00101 }
    (fun t => t.regs.a == 0x84 && t.flags == bits 0b10110) = true := by decide
-- AC_LOGIC = i8080 (R188): A bit 3 or operand bit 3
theorem test_ana_b_i8080 : after { boot [0xA0] with
      regs := { State.reset.regs with a := 0xF0, b := 0x0F }, params := { acLogic := .i8080 } }
    (fun t => t.regs.a == 0x00 && t.flags == bits 0b01110) = true := by decide
theorem test_xra_b : after { boot [0xA8] with regs := { State.reset.regs with a := 0x3B, b := 0x81 } }
    (fun t => t.regs.a == 0xBA && t.flags == bits 0b10000) = true := by decide
theorem test_ora_c : after { boot [0xB1] with regs := { State.reset.regs with a := 0xB5, c := 0x0F }, flags := bits 0b00001 }
    (fun t => t.regs.a == 0xBF && t.flags == bits 0b10000) = true := by decide
theorem test_cmp_e : after { boot [0xBB] with regs := { State.reset.regs with a := 0x05, e := 0x0A } }
    (fun t => t.regs.a == 0x05 && t.flags == bits 0b10001) = true := by decide
theorem test_cmp_b_equal : after { boot [0xB8] with regs := { State.reset.regs with a := 0x42, b := 0x42 } }
    (fun t => t.flags == bits 0b01010) = true := by decide
theorem test_sta_into_its_own_third_byte : after { boot [0x32, 0x02, 0x01] with regs := { State.reset.regs with a := 0x99 } }
    (fun t => Memory.read t.mem 0x0102 == 0x99 && t.pc == 0x0103) = true := by decide
theorem test_lda : after (withBytes (boot [0x3A, 0x40, 0x41]) 0x4140 [0x16]) (fun t => t.regs.a == 0x16) = true := by decide
theorem test_shld_wraps : after { boot [0x22, 0xFF, 0xFF] with regs := { State.reset.regs with h := 0x2F, l := 0x2C } }
    (fun t => Memory.read t.mem 0xFFFF == 0x2C && Memory.read t.mem 0x0000 == 0x2F) = true := by decide
theorem test_lhld : after (withBytes (boot [0x2A, 0x45, 0x75]) 0x7545 [0x2C, 0x2F])
    (fun t => t.regs.h == 0x2F && t.regs.l == 0x2C && t.pc == 0x0103) = true := by decide

-- immediate instructions
theorem test_lxi_sp : after (boot [0x31, 0x34, 0x12]) (fun t => t.sp == 0x1234 && t.pc == 0x0103) = true := by decide
theorem test_mvi_m : after { boot [0x36, 0x3C] with regs := { State.reset.regs with h := 0x20 } }
    (fun t => Memory.read t.mem 0x2000 == 0x3C && t.pc == 0x0102) = true := by decide
theorem test_adi : after { boot [0xC6, 0x42] with regs := { State.reset.regs with a := 0x14 } }
    (fun t => t.regs.a == 0x56 && t.flags == bits 0b00010) = true := by decide
theorem test_aci : after { boot [0xCE, 0x00] with regs := { State.reset.regs with a := 0xFF }, flags := bits 0b00001 }
    (fun t => t.regs.a == 0x00 && t.flags == bits 0b01111) = true := by decide
theorem test_sui : after { boot [0xD6, 0x01] with regs := { State.reset.regs with a := 0x00 } }
    (fun t => t.regs.a == 0xFF && t.flags == bits 0b10011) = true := by decide
theorem test_sbi : after { boot [0xDE, 0x01] with regs := { State.reset.regs with a := 0x00 }, flags := bits 0b00001 }
    (fun t => t.regs.a == 0xFE && t.flags == bits 0b10001) = true := by decide
theorem test_ani : after { boot [0xE6, 0x0F] with regs := { State.reset.regs with a := 0x3A }, flags := bits 0b00101 }
    (fun t => t.regs.a == 0x0A && t.flags == bits 0b00110) = true := by decide
theorem test_xri : after { boot [0xEE, 0x81] with regs := { State.reset.regs with a := 0x3B }, flags := bits 0b00001 }
    (fun t => t.regs.a == 0xBA && t.flags == bits 0b10000) = true := by decide
theorem test_ori : after { boot [0xF6, 0x0F] with regs := { State.reset.regs with a := 0xB5 }, flags := bits 0b00001 }
    (fun t => t.regs.a == 0xBF && t.flags == bits 0b10000) = true := by decide
theorem test_cpi : after { boot [0xFE, 0x40] with regs := { State.reset.regs with a := 0x02 } }
    (fun t => t.regs.a == 0x02 && t.flags == bits 0b10001) = true := by decide

-- branching instructions: each conditional one taken and not taken
theorem test_pchl : after { boot [0xE9] with regs := { State.reset.regs with h := 0xB8, l := 0xD6 } }
    (fun t => t.pc == 0xB8D6) = true := by decide
theorem test_jmp_fetch_wraps : after { withBytes State.reset 0xFFFE [0xC3, 0x20, 0x30] with pc := 0xFFFE }
    (fun t => t.pc == 0x3020) = true := by decide
/-- PC after a jump to 0x2000 with the given first byte and status bits. -/
def jumped (b : Byte) (f : BitVec 5) (pc : Word) : Bool := after { boot [b, 0x00, 0x20] with flags := bits f } (fun t => t.pc == pc)
theorem test_jnz_jz : (jumped 0xC2 0b00000 0x2000 && jumped 0xC2 0b01000 0x0103 &&
    jumped 0xCA 0b01000 0x2000 && jumped 0xCA 0b10111 0x0103) = true := by decide
theorem test_jnc_jc : (jumped 0xD2 0b11110 0x2000 && jumped 0xD2 0b00001 0x0103 &&
    jumped 0xDA 0b00001 0x2000 && jumped 0xDA 0b11110 0x0103) = true := by decide
theorem test_jpo_jpe : (jumped 0xE2 0b11101 0x2000 && jumped 0xE2 0b00010 0x0103 &&
    jumped 0xEA 0b00010 0x2000 && jumped 0xEA 0b11101 0x0103) = true := by decide
theorem test_jp_jm : (jumped 0xF2 0b01111 0x2000 && jumped 0xF2 0b10000 0x0103 &&
    jumped 0xFA 0b10000 0x2000 && jumped 0xFA 0b01111 0x0103) = true := by decide
theorem test_call : after (boot [0xCD, 0xAF, 0xFA])
    (fun t => t.pc == 0xFAAF && t.sp == 0x1FFE && Memory.read t.mem 0x1FFF == 0x01 && Memory.read t.mem 0x1FFE == 0x03) =
      true := by decide
/-- A call of 0x3000 with the given first byte and status bits goes there and pushes, or does neither. -/
def calls (b : Byte) (f : BitVec 5) (taken : Bool) : Bool :=
  after { boot [b, 0x00, 0x30] with flags := bits f } (fun t =>
    if taken then t.pc == 0x3000 && t.sp == 0x1FFE && Memory.read t.mem 0x1FFE == 0x03
    else t == { boot [b, 0x00, 0x30] with flags := bits f, pc := 0x0103 })
theorem test_cnz_cz : (calls 0xC4 0b10111 true && calls 0xC4 0b01000 false &&
    calls 0xCC 0b01000 true && calls 0xCC 0b10111 false) = true := by decide
theorem test_cnc_cc : (calls 0xD4 0b11110 true && calls 0xD4 0b00001 false &&
    calls 0xDC 0b00001 true && calls 0xDC 0b11110 false) = true := by decide
theorem test_cpo_cpe : (calls 0xE4 0b11101 true && calls 0xE4 0b00010 false &&
    calls 0xEC 0b00010 true && calls 0xEC 0b11101 false) = true := by decide
theorem test_cp_cm : (calls 0xF4 0b01111 true && calls 0xF4 0b10000 false &&
    calls 0xFC 0b10000 true && calls 0xFC 0b01111 false) = true := by decide
theorem test_ret_wraps : after { withBytes (boot [0xC9]) 0xFFFF [0x03, 0x01] with sp := 0xFFFF }
    (fun t => t.pc == 0x0103 && t.sp == 0x0001) = true := by decide
/-- A return to 0x4003 with the given first byte and status bits goes there and pops, or does neither. -/
def returns (b : Byte) (f : BitVec 5) (taken : Bool) : Bool :=
  after { withBytes (boot [b]) 0x1FFE [0x03, 0x40] with sp := 0x1FFE, flags := bits f } (fun t =>
    if taken then t.pc == 0x4003 && t.sp == 0x2000 else t.pc == 0x0101 && t.sp == 0x1FFE)
theorem test_rnz_rz : (returns 0xC0 0b10111 true && returns 0xC0 0b01000 false &&
    returns 0xC8 0b01000 true && returns 0xC8 0b10111 false) = true := by decide
theorem test_rnc_rc : (returns 0xD0 0b11110 true && returns 0xD0 0b00001 false &&
    returns 0xD8 0b00001 true && returns 0xD8 0b11110 false) = true := by decide
theorem test_rpo_rpe : (returns 0xE0 0b11101 true && returns 0xE0 0b00010 false &&
    returns 0xE8 0b00010 true && returns 0xE8 0b11101 false) = true := by decide
theorem test_rp_rm : (returns 0xF0 0b01111 true && returns 0xF0 0b10000 false &&
    returns 0xF8 0b10000 true && returns 0xF8 0b01111 false) = true := by decide

/-! ### Interrupt, reset, halt, memory map -/

/-- The environment offers the byte `b` at the coming boundary. -/
def offering (b : Byte) : List Boundary := [{ reset := none, offer := some b }]

-- 60_exceptions.md R278, worked sequence; program P4
theorem test_interrupt_wakes_the_halted_processor :
    after { State.reset with pc := 0x0048, sp := 0x0100, halted := true, inte := true, env := offering 0xCF }
      (fun t => t.pc == 0x0008 && t.sp == 0x00FE && Memory.read t.mem 0x00FF == 0x00 && Memory.read t.mem 0x00FE == 0x48 &&
        !t.inte && !t.halted) = true := by decide
-- R272
theorem test_offer_ignored_with_inte_0 : after { boot [0x00] with env := offering 0xCF } (fun t => t.pc == 0x0101 && t.sp == 0x2000) =
    true := by decide
theorem test_offer_of_no_rst_is_refused :
    step { boot [0x00] with inte := true, env := offering 0xCD } = .refused (.interruptNotRst 0xCD) := by rfl
-- R300
theorem test_reset_wins_over_an_offer :
    after { boot [0x76] with inte := true, halted := true, env := [{ reset := some .powerKept, offer := some 0xCF }] }
      (fun t => t.pc == 0x0000 && !t.inte && !t.halted && t.mem == (boot [0x76]).mem) = true := by rfl
theorem test_halted_waits : after { boot [0x00] with halted := true } (fun t => t.pc == 0x0100) = true := by decide
-- R104
theorem test_undefined_byte_is_refused : step (boot [0xCB]) = .refused (.rejected (.undefinedOpcode 0xCB)) := by rfl
-- R69
theorem test_store_to_rom_changes_nothing :
    after { boot [0x77] with
        regs := { State.reset.regs with a := 0x55, h := 0x20 },
        params := { memMap := [{ first := 0x2000, last := 0x2FFF, kind := .rom }] } }
      (fun t => Memory.read t.mem 0x2000 == 0x00 && t.pc == 0x0101) = true := by decide
theorem test_read_of_absent_memory_is_free :
    ∃ t, step { boot [0x7E] with
        regs := { State.reset.regs with h := 0x20 },
        params := { memMap := [{ first := 0x2000, last := 0x2000, kind := .absent }] } } = .next t ∧
      t.regs.a = absentByte 0x2000 0 ∧ t.draws = 1 := ⟨_, rfl, rfl, rfl⟩
theorem test_table_word_of_lxi : decodeTableWord 24 0x123431 = some (.lxi .sp 0x1234) := by decide
theorem test_table_word_runs : after (State.reset.withFetchWord 16 0x42C6) (fun t => t.regs.a == 0x42) = true := by decide

/-! ### A state that meets the hypotheses of each statement that has any -/

theorem witness_DecodeInvertsEncode :
    (Instr.lxi .sp 0x0100).WellFormed ∧ encode (.lxi .sp 0x0100) <+: [0x31, 0x00, 0x01] := by decide
theorem witness_EncodeInvertsDecode : decode 0x22 0x45 0x75 = .ok (.shld 0x7545) := by rfl

/-- ADI 0x42 at the last address, with its second byte at address 0. -/
def atTheTop : State := { withBytes State.reset 0xFFFF [0xC6, 0x42] with pc := 0xFFFF }
theorem witness_StepRunsTheDecodedInstruction :
    atTheTop.halted = false ∧ Undisturbed atTheTop ∧
      decodeUnder atTheTop.params (Memory.read atTheTop.mem atTheTop.pc) (Memory.read atTheTop.mem (atTheTop.pc + 1))
        (Memory.read atTheTop.mem (atTheTop.pc + 2)) = .ok (.adi 0x42) ∧
      ∀ k < (Instr.adi 0x42).length, atTheTop.present (atTheTop.pc + BitVec.ofNat 16 k) :=
  ⟨rfl, ⟨rfl, .inl rfl⟩, by rfl, fun _ _ => by nofun⟩

/-- ADI whose second byte has no memory. -/
def halfAbsent : State :=
  { boot [0xC6] with params := { memMap := [{ first := 0x0101, last := 0x0101, kind := .absent }] } }
theorem witness_StepRunsTheBytesItReads :
    let i := Instr.adi (absentByte 0x0101 0)
    let r := readBytes halfAbsent halfAbsent.pc i.length
    halfAbsent.halted = false ∧ Undisturbed halfAbsent ∧
      decodeUnder halfAbsent.params (r.1.getD 0 0) (r.1.getD 1 0) (r.1.getD 2 0) = .ok i :=
  ⟨rfl, ⟨rfl, .inl rfl⟩, rfl⟩

/-- The running machine with the parameters `p` and the byte `b` at PC. -/
def refusing (p : Params) (b : Byte) : State := { boot [b] with params := p }
theorem witness_StepRefuses_general_knowledge :
    let s := refusing { gkFamily := .refuse } 0xD3
    s.halted = false ∧ Undisturbed s ∧ (s.readByte s.pc).1 = 0xD3 ∧ s.params.gkFamily = .refuse :=
  ⟨rfl, ⟨rfl, .inl rfl⟩, rfl, rfl⟩
theorem witness_StepRefuses_pair_code :
    let s := refusing { rp11Arith := .refuse } 0x3B
    s.halted = false ∧ Undisturbed s ∧ (s.readByte s.pc).1 = 0x3B ∧ s.params.rp11Arith = .refuse :=
  ⟨rfl, ⟨rfl, .inl rfl⟩, rfl, rfl⟩
theorem witness_StepRefuses_undefined :
    let s := refusing {} 0xFD
    s.halted = false ∧ Undisturbed s ∧ (s.readByte s.pc).1 = 0xFD ∧ s.params.undefOpcode = .refuse :=
  ⟨rfl, ⟨rfl, .inl rfl⟩, rfl, rfl⟩

/-- The running machine with UNDEF_OPCODE = i8080_alias and the byte `b` at PC. -/
def aliased (b : Byte) : State := { boot [b] with params := { undefOpcode := .i8080Alias } }
theorem witness_UndefinedBytesRunAsAliases (b : Byte) :
    (aliased b).halted = false ∧ Undisturbed (aliased b) ∧ (∀ a, (aliased b).present a) ∧
      (aliased b).params.undefOpcode = .i8080Alias := ⟨rfl, ⟨rfl, .inl rfl⟩, fun _ => by nofun, rfl⟩
theorem witness_UndefinedBytes_clauses :
    Memory.read (aliased 0x08).mem 0x0100 = 0x08 ∧ Memory.read (aliased 0x38).mem 0x0100 = 0x38 ∧
      Memory.read (aliased 0xCB).mem 0x0100 = 0xCB ∧ Memory.read (aliased 0xD9).mem 0x0100 = 0xD9 ∧
      Memory.read (aliased 0xDD).mem 0x0100 = 0xDD ∧ Memory.read (aliased 0xFD).mem 0x0100 = 0xFD := by decide

theorem witness_StoredByteIsFetchedNext :
    let s : State := { boot [] with regs := { State.reset.regs with a := 0x76 } }
    s.halted = false ∧ Undisturbed s ∧ s.kind (s.pc + 3) = .ram ∧ encode .hlt = [s.regs.a] ∧
      decodeUnder s.params s.regs.a 0 0 = .ok .hlt := ⟨rfl, ⟨rfl, .inl rfl⟩, rfl, rfl, rfl⟩

/-- EI with EI_DELAY = 1. -/
def delayed : State := { boot [0xFB] with params := { eiDelay := true } }
theorem witness_StepKeepsTheInvariant : delayed.Inv ∧ ∃ t, step delayed = .next t :=
  ⟨⟨by decide, nofun, nofun⟩, _, rfl⟩

theorem witness_EveryInstructionCompletes :
    transfers State.reset.flags (.jc 0x2000) = false ∧ transfers State.reset.flags (.add .m) = false := ⟨rfl, rfl⟩
theorem witness_RegisterFrame : (∃ t, exec (.inr .b) (boot []) = .next t) ∧ Reg8.a ∉ destinations (.inr .b) :=
  ⟨⟨_, rfl⟩, by decide⟩
theorem witness_StatusBitFrame :
    (∃ t, exec (.dad .bc) (boot []) = .next t) ∧ writesSzp (.dad .bc) = false ∧ writesAc .unaffected (.ana .b) = false ∧
      writesCy (.inr .b) = false := ⟨⟨_, rfl⟩, rfl, rfl, rfl⟩
theorem witness_MemoryFrame :
    (∃ t, exec (.push .bc) (boot []) = .next t) ∧ (0x2000 : Word) ∉ stores (boot []) (.push .bc) ∧
      (0x1FFD : Word) ∉ stores (boot []) (.push .bc) := ⟨⟨_, rfl⟩, by decide, by decide⟩
theorem witness_MemoryFrame_rom :
    let s : State := { boot [] with params := { memMap := [{ first := 0x1FFF, last := 0x1FFF, kind := .rom }] } }
    (∃ t, exec (.push .bc) s = .next t) ∧ s.kind 0x1FFF ≠ .ram := ⟨⟨_, rfl⟩, by decide⟩
theorem witness_ControlFrame :
    (∃ t, exec .hlt (boot []) = .next t) ∧ Instr.hlt ≠ .ei ∧ Instr.hlt ≠ .di ∧ Instr.nop ≠ .hlt ∧
      (∀ p, Instr.hlt ≠ .outPort p) ∧ ∀ p, Instr.hlt ≠ .inPort p := ⟨⟨_, rfl⟩, by decide, by decide, by decide, nofun, nofun⟩
theorem witness_BytesOutsideRamNeverChange :
    let s : State := { boot [0x00] with params := { memMap := [{ first := 0x0000, last := 0x0FFF, kind := .rom }] } }
    (∃ t, s.runsTo 1 t) ∧ s.kind 0x0FFF ≠ .ram := ⟨⟨_, _, rfl, rfl⟩, by decide⟩
theorem witness_OutputsAreAppended : ∃ t, step (boot [0xD3, 0x01]) = .next t := ⟨_, rfl⟩
theorem witness_RunsDoNotDependOnDraws :
    (∀ a, (boot [0x00]).present a) ∧ (boot [0x00]).params.acLogic ≠ .draw ∧ (boot [0x00]).noReset ∧
      ∃ t, (boot [0x00]).runsTo 1 t := ⟨fun _ => by nofun, by decide, by simp [State.noReset, boot, State.reset], _, _, rfl, rfl⟩

/-- ram below 0x1000, rom at 0x1000, no memory at 0x2000. -/
def mapped : State :=
  { boot [] with
    params := { memMap := [{ first := 0x1000, last := 0x1000, kind := .rom }, { first := 0x2000, last := 0xFFFF, kind := .absent }] } }
theorem witness_ReadsAndWritesOfOneByte :
    mapped.kind 0x0FFF = .ram ∧ mapped.kind 0x1000 = .rom ∧ mapped.kind 0x1001 = .ram ∧ mapped.kind 0x2000 = .absent ∧
      mapped.kind 0xFFFF = .absent ∧ (0x0FFF : Word) ≠ 0x1000 := by decide
theorem witness_CanonicalMemoryIsUnique : Memory.wf (boot [0x76, 0x01]).mem ∧ Memory.wf ([] : Memory) := by decide
theorem witness_SixteenBitTransfers : State.reset.kind 0xFFFF = .ram ∧ State.reset.kind (0xFFFF + 1) = .ram := by decide
theorem witness_OperandForms : register State.reset.regs .a = some 0 ∧ Reg8.a ≠ .m ∧ Reg8.b ≠ .a := by decide
theorem witness_StatusByteLayout : (bits 0b10101).toByte = (Flags.ofByte 0x93).toByte := by decide
theorem witness_EnableInterrupts : ({} : Params).eiDelay = false ∧ ({ eiDelay := true } : Params).eiDelay = true := by decide
theorem witness_DisableAndHalt : Undisturbed { boot [] with halted := true } := ⟨rfl, .inl rfl⟩
theorem witness_BcdAddition :
    let s : State := { boot [] with regs := { State.reset.regs with a := 0x99, b := 0x90 } }
    IsBcd s.regs.a ∧ IsBcd (s.readOperand .b).1 := by simp [IsBcd, State.readOperand]
theorem witness_PushAndPop : ({} : Params).pswOrder = .flagsHigh ∧ ({ pswOrder := .aHigh } : Params).pswOrder = .aHigh := by decide
theorem witness_PushThenPopRestores :
    State.reset.kind (State.reset.sp - 1) = .ram ∧ State.reset.kind (State.reset.sp - 2) = .ram := by decide
theorem witness_Move : (Reg8.m, Reg8.b) ≠ (.m, .m) ∧ (Reg8.b, Reg8.b) ≠ (.m, .m) := by decide

theorem witness_CallThenReturn :
    let s := boot []
    isCall (.cnz 0x3000) = true ∧ condition s.flags (.cnz 0x3000) = true ∧ s.kind (s.sp - 1) = .ram ∧ s.kind (s.sp - 2) = .ram ∧
      ∃ t u : State, exec (.cnz 0x3000) s = .next t ∧ isReturn .rnc = true ∧ condition u.flags .rnc = true ∧ u.params = t.params ∧
        u.sp = t.sp ∧ Memory.read u.mem (s.sp - 1) = Memory.read t.mem (s.sp - 1) ∧
        Memory.read u.mem (s.sp - 2) = Memory.read t.mem (s.sp - 2) :=
  ⟨rfl, rfl, rfl, rfl, called (boot []) 0x0103 0x3000, called (boot []) 0x0103 0x3000, rfl, rfl, rfl, rfl, rfl, rfl, rfl⟩

/-- RST 7 offered to the halted machine with INTE 1. -/
def interrupted : State := { boot [] with halted := true, inte := true, env := offering 0xFF }
theorem witness_InterruptEntry : Interrupted interrupted 7 := ⟨rfl, rfl, rfl, .inl rfl⟩
theorem witness_InterruptThenReturn :
    let s := interrupted
    Interrupted s 7 ∧ s.kind (s.sp - 1) = .ram ∧ s.kind (s.sp - 2) = .ram ∧
      ∃ t u : State, step s = .next t ∧ isReturn .ret = true ∧ condition u.flags .ret = true ∧ u.params = t.params ∧ u.sp = t.sp ∧
        Memory.read u.mem (s.sp - 1) = Memory.read t.mem (s.sp - 1) ∧
        Memory.read u.mem (s.sp - 2) = Memory.read t.mem (s.sp - 2) :=
  ⟨witness_InterruptEntry, rfl, rfl, interrupted.setEnv [] |>.takeInterrupt 7, interrupted.setEnv [] |>.takeInterrupt 7,
    rfl, rfl, rfl, rfl, rfl, rfl, rfl⟩
theorem witness_OffersNotTaken :
    let s : State := { delayed with inte := true, eiShadow := true, env := offering 0xCF }
    s.env = { reset := none, offer := some 0xCF } :: [] ∧ s.params.eiDelay = true ∧ s.eiShadow = true := ⟨rfl, rfl, rfl⟩
theorem witness_OffersNotTaken_no_rst :
    let s : State := { interrupted with env := offering 0xCD }
    s.env = { reset := none, offer := some 0xCD } :: [] ∧ ¬ (s.inte = false ∨ (s.params.eiDelay = true ∧ s.eiShadow = true)) ∧
      ∀ n : BitVec 3, (0xCD : Byte) ≠ 0b11#2 ++ n ++ 0b111#3 := by decide
theorem witness_HaltedProcessorWaits :
    let s : State := { boot [] with halted := true, env := offering 0xCF }
    s.halted = true ∧ Undisturbed s ∧ s.final ∧ s.noReset :=
  ⟨rfl, ⟨rfl, .inr (.inl rfl)⟩, ⟨rfl, rfl⟩, by simp [State.noReset, offering]⟩
theorem witness_ResetMove :
    ({ boot [] with env := [{ reset := some .powerKept, offer := some 0xCF }] } : State).boundary.reset = some .powerKept ∧
      ({ boot [] with env := [{ reset := some .powerCycle, offer := none }] } : State).boundary.reset = some .powerCycle :=
  ⟨rfl, rfl⟩


end Sys2Proof.Tests
end

/-! The Status Bit Register (R33): the number its byte is, that the byte determines the status bits, and the bits that count
when a byte is loaded. -/

namespace Sys2Proof.Machine

open Claims

/-- R33's formula for the status byte, over its 32 values. -/
theorem Flags.toByte_toNat (f : Flags) : f.toByte.toNat = statusNat f := by
  rcases f with ⟨s, z, ac, p, cy⟩
  revert s z ac p cy
  decide

/-- No two of the 32 settings of the status bits share a byte, since loading the byte gives them back. -/
theorem Flags.toByte_injective : Function.Injective Flags.toByte :=
  Function.LeftInverse.injective Flags.ofByte_toByte

/-- What a loaded byte sets depends on its bits 7, 6, 4, 2 and 0 and on nothing else (R33, R151). -/
theorem Flags.ofByte_eq_ofByte_iff (v w : Byte) :
    Flags.ofByte v = Flags.ofByte w ↔
      v.getLsbD 7 = w.getLsbD 7 ∧ v.getLsbD 6 = w.getLsbD 6 ∧ v.getLsbD 4 = w.getLsbD 4 ∧
        v.getLsbD 2 = w.getLsbD 2 ∧ v.getLsbD 0 = w.getLsbD 0 := by
  simp only [Flags.ofByte, Flags.mk.injEq]

/-- Setting bits 5, 3 and 1 of a loaded byte changes no status bit. -/
theorem Flags.ofByte_setIgnored (v : Byte) : Flags.ofByte (v ||| 0b00101010) = Flags.ofByte v := by
  simp [Flags.ofByte_eq_ofByte_iff]

/-- Resetting bits 5, 3 and 1 of a loaded byte changes no status bit. -/
theorem Flags.ofByte_resetIgnored (v : Byte) : Flags.ofByte (v &&& 0b11010101) = Flags.ofByte v := by
  simp [Flags.ofByte_eq_ofByte_iff]

/-- Settles O27, from the byte's formula, the injectivity of the layout and the five bits that a loaded byte sets. -/
theorem statusByteLayout : Obligations.StatusByteLayout := by
  intro f g v
  exact ⟨f.toByte_toNat, @Flags.toByte_injective f g, rfl, rfl, rfl, rfl, rfl, Flags.ofByte_setIgnored v, Flags.ofByte_resetIgnored v⟩

end Sys2Proof.Machine

/-! NOP (R128) and CMA (R142): what each leaves, and that CMA followed by INR A is the two's complement. -/

namespace Sys2Proof.Machine

open Claims

theorem coded1_nop : Coded1 0x00 .nop := ⟨rfl, fun _ _ => rfl⟩

theorem coded1_cma : Coded1 0x2F .cma := ⟨rfl, fun _ _ => rfl⟩

/-- R128: NOP writes PC and nothing else. -/
theorem exec_nop (s : State) : exec .nop s = .next (s.advance 1) := rfl

/-- R142: CMA writes A and PC and nothing else. -/
theorem exec_cma (s : State) : exec .cma s = .next ((s.setA (~~~s.regs.a)).advance 1) := rfl

/-- R140 for register A: the operand is read from A and the result goes back there. -/
theorem exec_inr_a (s : State) :
    exec (.inr .a) s =
      .next (((s.setA (inc8 s.regs.a s.flags).1).setFlags (inc8 s.regs.a s.flags).2).advance 1) := rfl

/-- R140: the byte that INR answers is its operand plus one, modulo 256. -/
theorem inc8_fst (v : Byte) (f : Flags) : (inc8 v f).1 = v + 1 := rfl

/-- R142: the second CMA undoes the first, in every register. -/
theorem exec_cma_twice (s : State) :
    ∃ t u, exec .cma s = .next t ∧ exec .cma t = .next u ∧ u.regs = s.regs := by
  refine ⟨_, _, exec_cma s, exec_cma _, ?_⟩
  simp only [State.advance_regs, State.setA_regs, BitVec.not_not]

/-- R142: the one's complement plus one is the two's complement. -/
theorem exec_cma_inr_a (s : State) :
    ∃ t u, exec .cma s = .next t ∧ exec (.inr .a) t = .next u ∧ u.regs.a = -s.regs.a := by
  refine ⟨_, _, exec_cma s, exec_inr_a _, ?_⟩
  simp only [State.advance_regs, State.setFlags_regs, State.setA_regs, inc8_fst]
  exact (BitVec.neg_eq_not_add _).symm

/-- A byte and its negation add up to 0 modulo 256. -/
theorem neg_toNat_add_toNat (v : Byte) : ((-v).toNat + v.toNat) % 256 = 0 := by
  rw [← BitVec.toNat_add, BitVec.add_left_neg]
  rfl

/-- Settles O33: the two encodings by the decoder's equations, the complement bit by bit, and the two sequences that R142 names. -/
theorem nopAndComplement : Obligations.NopAndComplement := by
  refine ⟨coded1_nop, coded1_cma, fun s => ⟨exec_nop s, ⟨~~~s.regs.a, exec_cma s, ?_⟩, exec_cma_twice s, ?_⟩⟩
  · intro j hj
    simp [hj]
  · obtain ⟨t, u, hcma, hinr, ha⟩ := exec_cma_inr_a s
    exact ⟨t, u, hcma, hinr, ha ▸ neg_toNat_add_toNat s.regs.a⟩

end Sys2Proof.Machine

/-! XCHG (R155) and XTHL (R156): the exchange of HL with DE, and of HL with the word on top of the stack. -/

namespace Sys2Proof.Machine

open Claims

theorem coded1_xchg : Coded1 0xEB .xchg := ⟨rfl, fun _ _ => rfl⟩

theorem coded1_xthl : Coded1 0xE3 .xthl := ⟨rfl, fun _ _ => rfl⟩

/-- Loading HL with a word given by its bytes loads H with the high byte and L with the low byte. -/
theorem Regs.setHl_wordOf (r : Regs) (hi lo : Byte) : r.setHl (wordOf hi lo) = { r with h := hi, l := lo } := by
  rw [Regs.setHl, hiByte_wordOf, loByte_wordOf]

/-- R64, R67: a word given by its bytes is stored low byte first. -/
theorem State.writeWord_wordOf (s : State) (a : Word) (hi lo : Byte) :
    s.writeWord a (wordOf hi lo) = (s.writeByte a lo).writeByte (a + 1) hi := by
  rw [State.writeWord, hiByte_wordOf, loByte_wordOf]

/-- R155: XCHG writes the registers H, L, D and E, and PC, and nothing else. -/
theorem exec_xchg (s : State) :
    exec .xchg s =
      .next { s with regs := { s.regs with h := s.regs.d, l := s.regs.e, d := s.regs.h, e := s.regs.l }, pc := s.pc + 1 } := rfl

/-- R155: the second XCHG undoes the first, in every register. -/
theorem exec_xchg_twice (s : State) :
    ∃ t u, exec .xchg s = .next t ∧ exec .xchg t = .next u ∧ u.regs = s.regs :=
  ⟨_, _, exec_xchg s, exec_xchg _, rfl⟩

/-- R156: XTHL reads the word at SP, then stores HL there and loads HL with what it read. -/
theorem exec_xthl (s : State) :
    exec .xthl s =
      .next ((((s.readWord s.sp).2.writeWord s.sp s.regs.hl).setRegs (s.regs.setHl (s.readWord s.sp).1)).advance 1) := rfl

/-- R156, byte by byte: both bytes are read before either is written, and PC is the only other thing that changes. -/
theorem exec_xthl_bytes (s : State) :
    let lo := s.readByte s.sp
    let hi := lo.2.readByte (s.sp + 1)
    exec .xthl s =
      .next { (hi.2.writeByte s.sp s.regs.l).writeByte (s.sp + 1) s.regs.h with
        regs := { s.regs with h := hi.1, l := lo.1 }, pc := s.pc + 1 } := by
  intro lo hi
  have hread : s.readWord s.sp = (wordOf hi.1 lo.1, hi.2) := rfl
  have hpc : ((hi.2.writeByte s.sp s.regs.l).writeByte (s.sp + 1) s.regs.h).pc = s.pc := by
    simp only [State.writeByte_pc, hi, lo, State.readByte_pc]
  rw [exec_xthl, hread, Regs.setHl_wordOf, Regs.hl, State.writeWord_wordOf, State.advance, State.setRegs_pc, hpc]
  rfl

/-- Settles O41: the two encodings by the decoder's equations, the effect of XCHG and of two of them, and XTHL byte by byte. -/
theorem exchanges : Obligations.Exchanges :=
  ⟨coded1_xchg, coded1_xthl, fun s => ⟨exec_xchg s, exec_xchg_twice s, exec_xthl_bytes s⟩⟩

end Sys2Proof.Machine

/-! The rotates (R170 to R173): a left rotate moves seven bits up and puts one bit under them, a right rotate moves seven bits
down and puts one bit over them. The bit put in is the one rotated out, or CY. -/

namespace Sys2Proof.Machine

open Claims

theorem coded1_rlc : Coded1 0x07 .rlc := ⟨rfl, fun _ _ => rfl⟩

theorem coded1_rrc : Coded1 0x0F .rrc := ⟨rfl, fun _ _ => rfl⟩

theorem coded1_ral : Coded1 0x17 .ral := ⟨rfl, fun _ _ => rfl⟩

theorem coded1_rar : Coded1 0x1F .rar := ⟨rfl, fun _ _ => rfl⟩

/-- R170: RLC writes A, CY and PC and nothing else, and CY takes bit 7 of A. -/
theorem exec_rlc (s : State) :
    exec .rlc s =
      .next { s with
        regs := { s.regs with a := (rotateLeft8 s.regs.a).1 },
        flags := { s.flags with cy := s.regs.a.getLsbD 7 }, pc := s.pc + 1 } := rfl

/-- R171: RRC writes A, CY and PC and nothing else, and CY takes bit 0 of A. -/
theorem exec_rrc (s : State) :
    exec .rrc s =
      .next { s with
        regs := { s.regs with a := (rotateRight8 s.regs.a).1 },
        flags := { s.flags with cy := s.regs.a.getLsbD 0 }, pc := s.pc + 1 } := rfl

/-- R172: RAL writes A, CY and PC and nothing else, and CY takes bit 7 of A. -/
theorem exec_ral (s : State) :
    exec .ral s =
      .next { s with
        regs := { s.regs with a := (rotateLeftCarry s.regs.a s.flags.cy).1 },
        flags := { s.flags with cy := s.regs.a.getLsbD 7 }, pc := s.pc + 1 } := rfl

/-- R173: RAR writes A, CY and PC and nothing else, and CY takes bit 0 of A. -/
theorem exec_rar (s : State) :
    exec .rar s =
      .next { s with
        regs := { s.regs with a := (rotateRightCarry s.regs.a s.flags.cy).1 },
        flags := { s.flags with cy := s.regs.a.getLsbD 0 }, pc := s.pc + 1 } := rfl

/-- The bit put in under seven others is bit 0. -/
theorem getLsbD_zero_append_bit (v : BitVec 7) (x : BitVec 1) : (v ++ x).getLsbD 0 = x.getLsbD 0 := by
  rw [BitVec.getLsbD_append, if_pos Nat.zero_lt_one]

/-- With a bit put in under the low seven bits of `a`, each of the seven stands one place higher. -/
theorem getLsbD_succ_append_bit (a : Byte) (x : BitVec 1) {j : Nat} (hj : j < 7) :
    (a.extractLsb' 0 7 ++ x).getLsbD (j + 1) = a.getLsbD j := by
  rw [BitVec.getLsbD_append, if_neg (by omega)]
  simp [hj]

/-- The bit put in over seven others is bit 7. -/
theorem getLsbD_seven_bit_append (x : BitVec 1) (v : BitVec 7) : (x ++ v).getLsbD 7 = x.getLsbD 0 := by
  rw [BitVec.getLsbD_append, if_neg (Nat.lt_irrefl 7)]

/-- With a bit put in over the high seven bits of `a`, each of the seven stands one place lower. -/
theorem getLsbD_bit_append (x : BitVec 1) (a : Byte) {j : Nat} (hj : j < 7) :
    (x ++ a.extractLsb' 1 7).getLsbD j = a.getLsbD (j + 1) := by
  rw [BitVec.getLsbD_append, if_pos hj]
  simp [hj, Nat.add_comm 1 j]

theorem getLsbD_zero_bit (c : Bool) : (bit c).getLsbD 0 = c := by
  simp [bit]

/-- R170: bit 7 goes round into bit 0. -/
theorem rotateLeft8_bits (a : Byte) :
    (rotateLeft8 a).1.getLsbD 0 = a.getLsbD 7 ∧ ∀ j < 7, (rotateLeft8 a).1.getLsbD (j + 1) = a.getLsbD j :=
  ⟨(getLsbD_zero_append_bit _ _).trans (by simp), fun _ => getLsbD_succ_append_bit a _⟩

/-- R171: bit 0 goes round into bit 7. -/
theorem rotateRight8_bits (a : Byte) :
    (rotateRight8 a).1.getLsbD 7 = a.getLsbD 0 ∧ ∀ j < 7, (rotateRight8 a).1.getLsbD j = a.getLsbD (j + 1) :=
  ⟨(getLsbD_seven_bit_append _ _).trans (by simp), fun _ => getLsbD_bit_append _ a⟩

/-- R172: the old CY goes into bit 0. -/
theorem rotateLeftCarry_bits (a : Byte) (c : Bool) :
    (rotateLeftCarry a c).1.getLsbD 0 = c ∧ ∀ j < 7, (rotateLeftCarry a c).1.getLsbD (j + 1) = a.getLsbD j :=
  ⟨(getLsbD_zero_append_bit _ _).trans (getLsbD_zero_bit c), fun _ => getLsbD_succ_append_bit a _⟩

/-- R173: the old CY goes into bit 7. -/
theorem rotateRightCarry_bits (a : Byte) (c : Bool) :
    (rotateRightCarry a c).1.getLsbD 7 = c ∧ ∀ j < 7, (rotateRightCarry a c).1.getLsbD j = a.getLsbD (j + 1) :=
  ⟨(getLsbD_seven_bit_append _ _).trans (getLsbD_zero_bit c), fun _ => getLsbD_bit_append _ a⟩

/-- Settles O42: the four encodings by the decoder's equations, then for each rotate the state it answers and the bits of its byte. -/
theorem rotates : Obligations.Rotates :=
  ⟨coded1_rlc, coded1_rrc, coded1_ral, coded1_rar, fun s =>
    ⟨⟨_, exec_rlc s, rotateLeft8_bits s.regs.a⟩,
      ⟨_, exec_rrc s, rotateRight8_bits s.regs.a⟩,
      ⟨_, exec_ral s, rotateLeftCarry_bits s.regs.a s.flags.cy⟩,
      ⟨_, exec_rar s, rotateRightCarry_bits s.regs.a s.flags.cy⟩⟩⟩

end Sys2Proof.Machine

/-! MOV (R180) and the direct transfers STA, LDA, SHLD and LHLD (R193 to R196): for MOV that its byte `01 ddd sss` carries the two
operand codes apart, so that only M,M meets HLT, and for each what it copies and where. -/

namespace Sys2Proof.Machine

open Claims

/-- R26: after operations that keep PC, `advance` leaves it `n` bytes past where the instruction stood. -/
theorem State.advance_of_pc_eq {s t : State} (h : t.pc = s.pc) (n : Nat) :
    t.advance n = { t with pc := s.pc + BitVec.ofNat 16 n } := by
  rw [← h]
  rfl

/-! ### The byte of MOV -/

theorem regCode_lt (r : Reg8) : regCode r < 8 := by
  cases r <;> decide

/-- R21: the decoder reads a register code back as the operand it is the code of. -/
theorem reg8OfCode_regCode (r : Reg8) : reg8OfCode (regCode r) = r := by
  cases r <;> rfl

/-- R21: no register has the code 110. -/
theorem regCode_eq_six_iff (r : Reg8) : regCode r = 6 ↔ r = .m := by
  cases r <;> decide

theorem movByte_toNat (dst src : Reg8) :
    (BitVec.ofNat 8 (64 + 8 * regCode dst + regCode src)).toNat = 64 + 8 * regCode dst + regCode src := by
  have hd := regCode_lt dst
  have hs := regCode_lt src
  rw [BitVec.toNat_ofNat]
  omega

/-- R101: of the bytes `01 ddd sss`, only that of the pair M,M is the byte of HLT. -/
theorem movByte_eq_hlt_iff (dst src : Reg8) :
    BitVec.ofNat 8 (64 + 8 * regCode dst + regCode src) = 0x76 ↔ dst = .m ∧ src = .m := by
  have hd := regCode_lt dst
  have hs := regCode_lt src
  rw [← BitVec.toNat_inj, movByte_toNat, ← regCode_eq_six_iff, ← regCode_eq_six_iff]
  change _ = 118 ↔ _
  omega

/-- R98: the pattern of MOV puts the destination code into bits 5:3 and the source code into bits 2:0. -/
theorem encode_mov (dst src : Reg8) :
    encode (.mov dst src) = [BitVec.ofNat 8 (64 + 8 * regCode dst + regCode src)] := by
  cases dst <;> cases src <;> rfl

/-- R103: a byte of the quarter `01` other than HLT's is the MOV of the two operands it names. -/
theorem decode_quarter1 {b : Byte} (hq : b.toNat / 64 = 1) (hb : b ≠ 0x76) (b2 b3 : Byte) :
    decode b b2 b3 = .ok (.mov (reg8OfCode (b.toNat / 8 % 8)) (reg8OfCode (b.toNat % 8))) := by
  simp only [decode, hq, if_neg hb]

/-- R98, R103: the two codes are the two octal digits of the byte, so the decoder finds both operands again. -/
theorem decode_mov {dst src : Reg8} (h : (dst, src) ≠ (.m, .m)) (b2 b3 : Byte) :
    decode (BitVec.ofNat 8 (64 + 8 * regCode dst + regCode src)) b2 b3 = .ok (.mov dst src) := by
  have hd := regCode_lt dst
  have hs := regCode_lt src
  have hbyte := movByte_toNat dst src
  have hhlt : BitVec.ofNat 8 (64 + 8 * regCode dst + regCode src) ≠ 0x76 := fun hb =>
    h (Prod.ext_iff.mpr ((movByte_eq_hlt_iff dst src).mp hb))
  have hy : (64 + 8 * regCode dst + regCode src) / 8 % 8 = regCode dst := by omega
  have hz : (64 + 8 * regCode dst + regCode src) % 8 = regCode src := by omega
  rw [decode_quarter1 (by omega) hhlt, hbyte, hy, hz, reg8OfCode_regCode, reg8OfCode_regCode]

/-! ### The effect of MOV -/

/-- R180: MOV reads its source operand, writes its destination operand and PC, and nothing else. -/
theorem exec_mov (dst src : Reg8) (s : State) :
    exec (.mov dst src) s =
      .next { (s.readOperand src).2.writeOperand dst (s.readOperand src).1 with pc := s.pc + 1 } := by
  have hpc : ((s.readOperand src).2.writeOperand dst (s.readOperand src).1).pc = s.pc := by simp
  exact congrArg Host.Outcome.next (State.advance_of_pc_eq hpc 1)

/-- A register written with what it holds is as it was. -/
theorem State.writeOperand_readOperand_register {s : State} {r : Reg8} (h : r ≠ .m) :
    s.writeOperand r (s.readOperand r).1 = s := by
  cases r
  case m => exact absurd rfl h
  all_goals rfl

/-- R180: MOV of a register to itself writes PC and nothing else. -/
theorem exec_mov_self {r : Reg8} (h : r ≠ .m) (s : State) :
    exec (.mov r r) s = .next { s with pc := s.pc + 1 } := by
  rw [exec_mov, State.readOperand_register h, State.writeOperand_readOperand_register h]

/-- Settles O43: MOV M,M by R101, the other pairs by their byte in both directions, the copy, and the copy of a register to itself. -/
theorem move : Obligations.Move := by
  refine ⟨fun hwf => hwf rfl, fun dst src h => ⟨⟨encode_mov dst src, decode_mov h⟩, fun s => ⟨exec_mov dst src s, ?_⟩⟩⟩
  rintro rfl
  have hreg : dst ≠ .m := fun hm => h (by rw [hm])
  exact exec_mov_self hreg s

/-! ### The direct transfers -/

/-- R91: a three-byte instruction whose encoder writes its address low byte first is `Coded3` when the decoder reads it so. -/
theorem coded3_of_withWord {b : Byte} {f : Word → Instr} (henc : ∀ w, encode (f w) = withWord b w)
    (hdec : ∀ lo hi, decode b lo hi = .ok (f (wordOf hi lo))) : Coded3 b f := by
  refine fun lo hi => ⟨?_, hdec lo hi⟩
  calc encode (f (wordOf hi lo))
    _ = [b, loByte (wordOf hi lo), hiByte (wordOf hi lo)] := henc _
    _ = [b, lo, hi] := by rw [loByte_wordOf, hiByte_wordOf]

theorem coded3_sta : Coded3 0x32 .sta := coded3_of_withWord (fun _ => rfl) fun _ _ => rfl

theorem coded3_lda : Coded3 0x3A .lda := coded3_of_withWord (fun _ => rfl) fun _ _ => rfl

theorem coded3_shld : Coded3 0x22 .shld := coded3_of_withWord (fun _ => rfl) fun _ _ => rfl

theorem coded3_lhld : Coded3 0x2A .lhld := coded3_of_withWord (fun _ => rfl) fun _ _ => rfl

/-- R193: STA stores A at its address and writes PC, and nothing else. -/
theorem exec_sta (s : State) (addr : Word) :
    exec (.sta addr) s = .next { s.writeByte addr s.regs.a with pc := s.pc + 3 } :=
  congrArg Host.Outcome.next (State.advance_of_pc_eq (s.writeByte_pc addr s.regs.a) 3)

/-- R194: LDA loads A with the byte read at its address and writes PC, and nothing else. -/
theorem exec_lda (s : State) (addr : Word) :
    exec (.lda addr) s =
      .next { (s.readByte addr).2 with regs := { s.regs with a := (s.readByte addr).1 }, pc := s.pc + 3 } := by
  have hexec : exec (.lda addr) s = .next (((s.readByte addr).2.setA (s.readByte addr).1).advance 3) := rfl
  have hpc : ((s.readByte addr).2.setA (s.readByte addr).1).pc = s.pc := by simp
  rw [hexec, State.advance_of_pc_eq hpc, State.setA, State.readByte_regs]
  rfl

/-- R195: SHLD stores L at its address, then H at the next one, and writes PC, and nothing else. -/
theorem exec_shld (s : State) (addr : Word) :
    exec (.shld addr) s =
      .next { (s.writeByte addr s.regs.l).writeByte (addr + 1) s.regs.h with pc := s.pc + 3 } := by
  have hexec : exec (.shld addr) s = .next ((s.writeWord addr s.regs.hl).advance 3) := rfl
  rw [hexec, State.advance_of_pc_eq (s.writeWord_pc addr s.regs.hl), Regs.hl, State.writeWord_wordOf]
  rfl

/-- R196: LHLD loads L from its address, then H from the next one, and writes PC, and nothing else. -/
theorem exec_lhld (s : State) (addr : Word) :
    let lo := s.readByte addr
    let hi := lo.2.readByte (addr + 1)
    exec (.lhld addr) s = .next { hi.2 with regs := { s.regs with h := hi.1, l := lo.1 }, pc := s.pc + 3 } := by
  intro lo hi
  have hexec : exec (.lhld addr) s = .next ((hi.2.setRegs (s.regs.setHl (wordOf hi.1 lo.1))).advance 3) := rfl
  have hpc : (hi.2.setRegs (s.regs.setHl (wordOf hi.1 lo.1))).pc = s.pc := by
    simp only [State.setRegs_pc, hi, lo, State.readByte_pc]
  rw [hexec, State.advance_of_pc_eq hpc, Regs.setHl_wordOf]
  rfl

/-- Settles O45, by the two encodings and the two next states. -/
theorem directAccumulatorTransfers : Obligations.DirectAccumulatorTransfers :=
  ⟨coded3_sta, coded3_lda, fun s addr => ⟨exec_sta s addr, exec_lda s addr⟩⟩

/-- Settles O46, by the two encodings and the two next states. -/
theorem directHLTransfers : Obligations.DirectHLTransfers :=
  ⟨coded3_shld, coded3_lhld, fun s addr => ⟨exec_shld s addr, exec_lhld s addr⟩⟩

end Sys2Proof.Machine

/-! PCHL, JMP and the conditional jumps (R231 to R240): the status bit that each of the eight conditions reads, and a jump as a
write of PC alone, to the address or to the next instruction. -/

namespace Sys2Proof.Machine

open Claims

/-! ### The eight conditions (R96) -/

theorem Flags.holds_c (f : Flags) : f.holds .c = true ↔ f.cy = true := Iff.rfl

theorem Flags.holds_nc (f : Flags) : f.holds .nc = true ↔ f.cy = false := by rw [Flags.holds, Bool.not_eq_true']

theorem Flags.holds_z (f : Flags) : f.holds .z = true ↔ f.z = true := Iff.rfl

theorem Flags.holds_nz (f : Flags) : f.holds .nz = true ↔ f.z = false := by rw [Flags.holds, Bool.not_eq_true']

theorem Flags.holds_m (f : Flags) : f.holds .m = true ↔ f.s = true := Iff.rfl

theorem Flags.holds_p (f : Flags) : f.holds .p = true ↔ f.s = false := by rw [Flags.holds, Bool.not_eq_true']

theorem Flags.holds_pe (f : Flags) : f.holds .pe = true ↔ f.p = true := Iff.rfl

theorem Flags.holds_po (f : Flags) : f.holds .po = true ↔ f.p = false := by rw [Flags.holds, Bool.not_eq_true']

/-! ### The encodings -/

theorem coded1_pchl : Coded1 0xE9 .pchl := ⟨rfl, fun _ _ => rfl⟩

theorem coded3_jmp : Coded3 0xC3 .jmp := coded3_of_withWord (fun _ => rfl) fun _ _ => rfl

theorem coded3_jc : Coded3 0xDA .jc := coded3_of_withWord (fun _ => rfl) fun _ _ => rfl

theorem coded3_jnc : Coded3 0xD2 .jnc := coded3_of_withWord (fun _ => rfl) fun _ _ => rfl

theorem coded3_jz : Coded3 0xCA .jz := coded3_of_withWord (fun _ => rfl) fun _ _ => rfl

theorem coded3_jnz : Coded3 0xC2 .jnz := coded3_of_withWord (fun _ => rfl) fun _ _ => rfl

theorem coded3_jm : Coded3 0xFA .jm := coded3_of_withWord (fun _ => rfl) fun _ _ => rfl

theorem coded3_jp : Coded3 0xF2 .jp := coded3_of_withWord (fun _ => rfl) fun _ _ => rfl

theorem coded3_jpe : Coded3 0xEA .jpe := coded3_of_withWord (fun _ => rfl) fun _ _ => rfl

theorem coded3_jpo : Coded3 0xE2 .jpo := coded3_of_withWord (fun _ => rfl) fun _ _ => rfl

/-! ### The effect -/

/-- R230: a conditional jump writes PC and nothing else, whichever way it goes. -/
theorem State.jumpIf_eq (s : State) (k : Cond) (addr : Word) :
    s.jumpIf k addr = { s with pc := if s.flags.holds k = true then addr else s.pc + 3 } := by
  unfold State.jumpIf
  split
  · rfl
  · rfl

/-- R230, with the condition said as a statement `P` about the status bits. -/
theorem State.jumpIf_eq_of_iff {s : State} {k : Cond} {P : Prop} [Decidable P] (h : s.flags.holds k = true ↔ P) (addr : Word) :
    s.jumpIf k addr = { s with pc := if P then addr else s.pc + 3 } := by
  rw [State.jumpIf_eq, if_congr h rfl rfl]

/-- R231: PCHL writes PC, with H as its high byte and L as its low byte, and nothing else. -/
theorem exec_pchl (s : State) : exec .pchl s = .next { s with pc := s.regs.h ++ s.regs.l } := rfl

/-- R232: JMP writes PC and nothing else. -/
theorem exec_jmp (s : State) (addr : Word) : exec (.jmp addr) s = .next { s with pc := addr } := rfl

/-- R233: JC jumps where CY = 1. -/
theorem exec_jc (s : State) (addr : Word) :
    exec (.jc addr) s = .next { s with pc := if s.flags.cy = true then addr else s.pc + 3 } :=
  congrArg Host.Outcome.next (State.jumpIf_eq_of_iff s.flags.holds_c addr)

/-- R234: JNC jumps where CY = 0. -/
theorem exec_jnc (s : State) (addr : Word) :
    exec (.jnc addr) s = .next { s with pc := if s.flags.cy = false then addr else s.pc + 3 } :=
  congrArg Host.Outcome.next (State.jumpIf_eq_of_iff s.flags.holds_nc addr)

/-- R235: JZ jumps where Z = 1. -/
theorem exec_jz (s : State) (addr : Word) :
    exec (.jz addr) s = .next { s with pc := if s.flags.z = true then addr else s.pc + 3 } :=
  congrArg Host.Outcome.next (State.jumpIf_eq_of_iff s.flags.holds_z addr)

/-- R236: JNZ jumps where Z = 0. -/
theorem exec_jnz (s : State) (addr : Word) :
    exec (.jnz addr) s = .next { s with pc := if s.flags.z = false then addr else s.pc + 3 } :=
  congrArg Host.Outcome.next (State.jumpIf_eq_of_iff s.flags.holds_nz addr)

/-- R237: JM jumps where S = 1. -/
theorem exec_jm (s : State) (addr : Word) :
    exec (.jm addr) s = .next { s with pc := if s.flags.s = true then addr else s.pc + 3 } :=
  congrArg Host.Outcome.next (State.jumpIf_eq_of_iff s.flags.holds_m addr)

/-- R238: JP jumps where S = 0. -/
theorem exec_jp (s : State) (addr : Word) :
    exec (.jp addr) s = .next { s with pc := if s.flags.s = false then addr else s.pc + 3 } :=
  congrArg Host.Outcome.next (State.jumpIf_eq_of_iff s.flags.holds_p addr)

/-- R239: JPE jumps where P = 1. -/
theorem exec_jpe (s : State) (addr : Word) :
    exec (.jpe addr) s = .next { s with pc := if s.flags.p = true then addr else s.pc + 3 } :=
  congrArg Host.Outcome.next (State.jumpIf_eq_of_iff s.flags.holds_pe addr)

/-- R240: JPO jumps where P = 0. -/
theorem exec_jpo (s : State) (addr : Word) :
    exec (.jpo addr) s = .next { s with pc := if s.flags.p = false then addr else s.pc + 3 } :=
  congrArg Host.Outcome.next (State.jumpIf_eq_of_iff s.flags.holds_po addr)

/-- Settles O52: the ten encodings, and for each jump the PC that it writes. -/
theorem jumps : Obligations.Jumps :=
  ⟨coded1_pchl, coded3_jmp, coded3_jc, coded3_jnc, coded3_jz, coded3_jnz, coded3_jm, coded3_jp, coded3_jpe, coded3_jpo, fun s addr =>
    ⟨exec_pchl s, exec_jmp s addr, exec_jc s addr, exec_jnc s addr, exec_jz s addr, exec_jnz s addr, exec_jm s addr, exec_jp s addr,
      exec_jpe s addr, exec_jpo s addr⟩⟩

end Sys2Proof.Machine

/-! ## The encoding (30_encoding.md)

Each instruction's bytes in both directions, by the shape of its encoding (one, two or three bytes); from these the two halves of
the round trip, the twelve bytes that no instruction uses, and the counts of first bytes. -/

namespace Sys2Proof.Machine

open Claims

/-! ### The bytes of each instruction -/

/-- R98: an instruction of two bytes, from the two equations that say so. -/
theorem coded2_intro {b : Byte} {f : Byte → Instr} (henc : ∀ d, encode (f d) = [b, d])
    (hdec : ∀ d b3, decode b d b3 = .ok (f d)) : Coded2 b f := fun d b3 => ⟨henc d, hdec d b3⟩

theorem coded2_inPort : Coded2 0xDB .inPort := coded2_intro (fun _ => rfl) fun _ _ => rfl

theorem coded2_outPort : Coded2 0xD3 .outPort := coded2_intro (fun _ => rfl) fun _ _ => rfl

theorem coded1_ei : Coded1 0xFB .ei := ⟨rfl, fun _ _ => rfl⟩

theorem coded1_di : Coded1 0xF3 .di := ⟨rfl, fun _ _ => rfl⟩

theorem coded1_hlt : Coded1 0x76 .hlt := ⟨rfl, fun _ _ => rfl⟩

/-- R125: the three bits `nnn` of the byte `11 nnn 111` come back as the number of the restart. -/
theorem coded1_rst (n : BitVec 3) : Coded1 (0b11#2 ++ n ++ 0b111#3) (.rst n) := by
  refine ⟨rfl, fun b2 b3 => ?_⟩
  have hq : (0b11#2 ++ n ++ 0b111#3).toNat / 64 = 3 := by revert n; decide
  have hz : (0b11#2 ++ n ++ 0b111#3).toNat % 8 = 7 := by revert n; decide
  have hy : (0b11#2 ++ n ++ 0b111#3).toNat / 8 % 8 = n.toNat := by revert n; decide
  simp [decode, hq, hz, hy, decodeQuarter3]

theorem coded1_cmc : Coded1 0x3F .cmc := ⟨rfl, fun _ _ => rfl⟩

theorem coded1_stc : Coded1 0x37 .stc := ⟨rfl, fun _ _ => rfl⟩

theorem coded1_inr (r : Reg8) : Coded1 (BitVec.ofNat 8 (8 * regCode r + 4)) (.inr r) := by
  cases r <;> exact ⟨rfl, fun _ _ => rfl⟩

theorem coded1_dcr (r : Reg8) : Coded1 (BitVec.ofNat 8 (8 * regCode r + 5)) (.dcr r) := by
  cases r <;> exact ⟨rfl, fun _ _ => rfl⟩

theorem coded1_daa : Coded1 0x27 .daa := ⟨rfl, fun _ _ => rfl⟩

theorem coded1_push (p : PairS) : Coded1 (0b11#2 ++ p.code ++ 0b0101#4) (.push p) := by
  cases p <;> exact ⟨rfl, fun _ _ => rfl⟩

theorem coded1_pop (p : PairS) : Coded1 (0b11#2 ++ p.code ++ 0b0001#4) (.pop p) := by
  cases p <;> exact ⟨rfl, fun _ _ => rfl⟩

theorem coded1_dad (p : PairA) : Coded1 (0b00#2 ++ p.code ++ 0b1001#4) (.dad p) := by
  cases p <;> exact ⟨rfl, fun _ _ => rfl⟩

theorem coded1_inx (p : PairA) : Coded1 (0b00#2 ++ p.code ++ 0b0011#4) (.inx p) := by
  cases p <;> exact ⟨rfl, fun _ _ => rfl⟩

theorem coded1_dcx (p : PairA) : Coded1 (0b00#2 ++ p.code ++ 0b1011#4) (.dcx p) := by
  cases p <;> exact ⟨rfl, fun _ _ => rfl⟩

theorem coded1_sphl : Coded1 0xF9 .sphl := ⟨rfl, fun _ _ => rfl⟩

theorem coded1_stax (x : PairX) : Coded1 (0b000#3 ++ x.code ++ 0b0010#4) (.stax x) := by
  cases x <;> exact ⟨rfl, fun _ _ => rfl⟩

theorem coded1_ldax (x : PairX) : Coded1 (0b000#3 ++ x.code ++ 0b1010#4) (.ldax x) := by
  cases x <;> exact ⟨rfl, fun _ _ => rfl⟩

/-- R95: the byte `10 ooo rrr` is the accumulator operation `ooo` on the operand `rrr`. -/
theorem coded1_accumulator {y : Nat} (hy : y < 8) (r : Reg8) :
    Coded1 (BitVec.ofNat 8 (0x80 + 8 * y + regCode r)) (decodeAccumulator y r) := by
  interval_cases y <;> cases r <;> exact ⟨rfl, fun _ _ => rfl⟩

theorem coded1_add (r : Reg8) : Coded1 (BitVec.ofNat 8 (0x80 + regCode r)) (.add r) :=
  coded1_accumulator (y := 0) (by decide) r

theorem coded1_adc (r : Reg8) : Coded1 (BitVec.ofNat 8 (0x88 + regCode r)) (.adc r) :=
  coded1_accumulator (y := 1) (by decide) r

theorem coded1_sub (r : Reg8) : Coded1 (BitVec.ofNat 8 (0x90 + regCode r)) (.sub r) :=
  coded1_accumulator (y := 2) (by decide) r

theorem coded1_sbb (r : Reg8) : Coded1 (BitVec.ofNat 8 (0x98 + regCode r)) (.sbb r) :=
  coded1_accumulator (y := 3) (by decide) r

theorem coded1_ana (r : Reg8) : Coded1 (BitVec.ofNat 8 (0xA0 + regCode r)) (.ana r) :=
  coded1_accumulator (y := 4) (by decide) r

theorem coded1_xra (r : Reg8) : Coded1 (BitVec.ofNat 8 (0xA8 + regCode r)) (.xra r) :=
  coded1_accumulator (y := 5) (by decide) r

theorem coded1_ora (r : Reg8) : Coded1 (BitVec.ofNat 8 (0xB0 + regCode r)) (.ora r) :=
  coded1_accumulator (y := 6) (by decide) r

theorem coded1_cmp (r : Reg8) : Coded1 (BitVec.ofNat 8 (0xB8 + regCode r)) (.cmp r) :=
  coded1_accumulator (y := 7) (by decide) r

/-- R91: `lxi p` writes its datum low byte first. -/
theorem coded3_lxi (p : PairA) : Coded3 (0b00#2 ++ p.code ++ 0b0001#4) (.lxi p) := by
  cases p <;> exact coded3_of_withWord (fun _ => rfl) fun _ _ => rfl

theorem coded2_mvi (r : Reg8) : Coded2 (BitVec.ofNat 8 (8 * regCode r + 6)) (.mvi r) := by
  cases r <;> exact coded2_intro (fun _ => rfl) fun _ _ => rfl

/-- R95: the byte `11 ooo 110` is the accumulator operation `ooo` on the byte that follows. -/
theorem coded2_immediate {y : Nat} (hy : y < 8) : Coded2 (BitVec.ofNat 8 (192 + 8 * y + 6)) (decodeImmediate y) := by
  interval_cases y <;> exact coded2_intro (fun _ => rfl) fun _ _ => rfl

theorem coded2_adi : Coded2 0xC6 .adi := coded2_immediate (y := 0) (by decide)

theorem coded2_aci : Coded2 0xCE .aci := coded2_immediate (y := 1) (by decide)

theorem coded2_sui : Coded2 0xD6 .sui := coded2_immediate (y := 2) (by decide)

theorem coded2_sbi : Coded2 0xDE .sbi := coded2_immediate (y := 3) (by decide)

theorem coded2_ani : Coded2 0xE6 .ani := coded2_immediate (y := 4) (by decide)

theorem coded2_xri : Coded2 0xEE .xri := coded2_immediate (y := 5) (by decide)

theorem coded2_ori : Coded2 0xF6 .ori := coded2_immediate (y := 6) (by decide)

theorem coded2_cpi : Coded2 0xFE .cpi := coded2_immediate (y := 7) (by decide)

theorem coded3_call : Coded3 0xCD .call := coded3_of_withWord (fun _ => rfl) fun _ _ => rfl

theorem coded3_cc : Coded3 0xDC .cc := coded3_of_withWord (fun _ => rfl) fun _ _ => rfl

theorem coded3_cnc : Coded3 0xD4 .cnc := coded3_of_withWord (fun _ => rfl) fun _ _ => rfl

theorem coded3_cz : Coded3 0xCC .cz := coded3_of_withWord (fun _ => rfl) fun _ _ => rfl

theorem coded3_cnz : Coded3 0xC4 .cnz := coded3_of_withWord (fun _ => rfl) fun _ _ => rfl

theorem coded3_cm : Coded3 0xFC .cm := coded3_of_withWord (fun _ => rfl) fun _ _ => rfl

theorem coded3_cp : Coded3 0xF4 .cp := coded3_of_withWord (fun _ => rfl) fun _ _ => rfl

theorem coded3_cpe : Coded3 0xEC .cpe := coded3_of_withWord (fun _ => rfl) fun _ _ => rfl

theorem coded3_cpo : Coded3 0xE4 .cpo := coded3_of_withWord (fun _ => rfl) fun _ _ => rfl

theorem coded1_ret : Coded1 0xC9 .ret := ⟨rfl, fun _ _ => rfl⟩

theorem coded1_rc : Coded1 0xD8 .rc := ⟨rfl, fun _ _ => rfl⟩

theorem coded1_rnc : Coded1 0xD0 .rnc := ⟨rfl, fun _ _ => rfl⟩

theorem coded1_rz : Coded1 0xC8 .rz := ⟨rfl, fun _ _ => rfl⟩

theorem coded1_rnz : Coded1 0xC0 .rnz := ⟨rfl, fun _ _ => rfl⟩

theorem coded1_rm : Coded1 0xF8 .rm := ⟨rfl, fun _ _ => rfl⟩

theorem coded1_rp : Coded1 0xF0 .rp := ⟨rfl, fun _ _ => rfl⟩

theorem coded1_rpe : Coded1 0xE8 .rpe := ⟨rfl, fun _ _ => rfl⟩

theorem coded1_rpo : Coded1 0xE0 .rpo := ⟨rfl, fun _ _ => rfl⟩

/-- R98, R101: the byte of MOV, for every pair of operands but M,M. -/
theorem coded1_mov {dst src : Reg8} (h : (dst, src) ≠ (.m, .m)) :
    Coded1 (BitVec.ofNat 8 (64 + 8 * regCode dst + regCode src)) (.mov dst src) :=
  ⟨encode_mov dst src, decode_mov h⟩

/-! ### The decoder undoes the encoder -/

theorem decode_of_coded1 {b b1 b2 b3 : Byte} {i : Instr} (h : Coded1 b i) (hp : encode i <+: [b1, b2, b3]) :
    decode b1 b2 b3 = .ok i := by
  obtain ⟨henc, hdec⟩ := h
  rw [henc] at hp
  obtain ⟨rfl, -⟩ := List.cons_prefix_cons.mp hp
  exact hdec b2 b3

theorem decode_of_coded2 {b b1 b2 b3 d : Byte} {f : Byte → Instr} (h : Coded2 b f)
    (hp : encode (f d) <+: [b1, b2, b3]) : decode b1 b2 b3 = .ok (f d) := by
  rw [(h d b3).1] at hp
  simp only [List.cons_prefix_cons] at hp
  obtain ⟨rfl, rfl, -⟩ := hp
  exact (h d b3).2

theorem decode_of_coded3 {b b1 b2 b3 : Byte} {w : Word} {f : Word → Instr} (h : Coded3 b f)
    (hp : encode (f w) <+: [b1, b2, b3]) : decode b1 b2 b3 = .ok (f w) := by
  obtain ⟨henc, hdec⟩ := h (loByte w) (hiByte w)
  have hw : (hiByte w ++ loByte w : Word) = w := wordOf_hiByte_loByte w
  rw [hw] at henc hdec
  rw [henc] at hp
  simp only [List.cons_prefix_cons] at hp
  obtain ⟨rfl, rfl, rfl, -⟩ := hp
  exact hdec

/-- Settles O6, one instruction at a time, by its bytes. Well-formedness is used for MOV alone (R101). -/
theorem decodeInvertsEncode : Obligations.DecodeInvertsEncode := by
  intro i b1 b2 b3 hwf hp
  cases i with
  | inPort _ => exact decode_of_coded2 coded2_inPort hp
  | outPort _ => exact decode_of_coded2 coded2_outPort hp
  | ei => exact decode_of_coded1 coded1_ei hp
  | di => exact decode_of_coded1 coded1_di hp
  | hlt => exact decode_of_coded1 coded1_hlt hp
  | rst n => exact decode_of_coded1 (coded1_rst n) hp
  | cmc => exact decode_of_coded1 coded1_cmc hp
  | stc => exact decode_of_coded1 coded1_stc hp
  | nop => exact decode_of_coded1 coded1_nop hp
  | inr r => exact decode_of_coded1 (coded1_inr r) hp
  | dcr r => exact decode_of_coded1 (coded1_dcr r) hp
  | cma => exact decode_of_coded1 coded1_cma hp
  | daa => exact decode_of_coded1 coded1_daa hp
  | push p => exact decode_of_coded1 (coded1_push p) hp
  | pop p => exact decode_of_coded1 (coded1_pop p) hp
  | dad p => exact decode_of_coded1 (coded1_dad p) hp
  | inx p => exact decode_of_coded1 (coded1_inx p) hp
  | dcx p => exact decode_of_coded1 (coded1_dcx p) hp
  | xchg => exact decode_of_coded1 coded1_xchg hp
  | xthl => exact decode_of_coded1 coded1_xthl hp
  | sphl => exact decode_of_coded1 coded1_sphl hp
  | rlc => exact decode_of_coded1 coded1_rlc hp
  | rrc => exact decode_of_coded1 coded1_rrc hp
  | ral => exact decode_of_coded1 coded1_ral hp
  | rar => exact decode_of_coded1 coded1_rar hp
  | mov dst src =>
    have hmm : (dst, src) ≠ (.m, .m) := by rintro ⟨⟩; exact hwf rfl
    exact decode_of_coded1 (coded1_mov hmm) hp
  | stax x => exact decode_of_coded1 (coded1_stax x) hp
  | ldax x => exact decode_of_coded1 (coded1_ldax x) hp
  | add r => exact decode_of_coded1 (coded1_add r) hp
  | adc r => exact decode_of_coded1 (coded1_adc r) hp
  | sub r => exact decode_of_coded1 (coded1_sub r) hp
  | sbb r => exact decode_of_coded1 (coded1_sbb r) hp
  | ana r => exact decode_of_coded1 (coded1_ana r) hp
  | xra r => exact decode_of_coded1 (coded1_xra r) hp
  | ora r => exact decode_of_coded1 (coded1_ora r) hp
  | cmp r => exact decode_of_coded1 (coded1_cmp r) hp
  | sta _ => exact decode_of_coded3 coded3_sta hp
  | lda _ => exact decode_of_coded3 coded3_lda hp
  | shld _ => exact decode_of_coded3 coded3_shld hp
  | lhld _ => exact decode_of_coded3 coded3_lhld hp
  | lxi p _ => exact decode_of_coded3 (coded3_lxi p) hp
  | mvi r _ => exact decode_of_coded2 (coded2_mvi r) hp
  | adi _ => exact decode_of_coded2 coded2_adi hp
  | aci _ => exact decode_of_coded2 coded2_aci hp
  | sui _ => exact decode_of_coded2 coded2_sui hp
  | sbi _ => exact decode_of_coded2 coded2_sbi hp
  | ani _ => exact decode_of_coded2 coded2_ani hp
  | xri _ => exact decode_of_coded2 coded2_xri hp
  | ori _ => exact decode_of_coded2 coded2_ori hp
  | cpi _ => exact decode_of_coded2 coded2_cpi hp
  | pchl => exact decode_of_coded1 coded1_pchl hp
  | jmp _ => exact decode_of_coded3 coded3_jmp hp
  | jc _ => exact decode_of_coded3 coded3_jc hp
  | jnc _ => exact decode_of_coded3 coded3_jnc hp
  | jz _ => exact decode_of_coded3 coded3_jz hp
  | jnz _ => exact decode_of_coded3 coded3_jnz hp
  | jm _ => exact decode_of_coded3 coded3_jm hp
  | jp _ => exact decode_of_coded3 coded3_jp hp
  | jpe _ => exact decode_of_coded3 coded3_jpe hp
  | jpo _ => exact decode_of_coded3 coded3_jpo hp
  | call _ => exact decode_of_coded3 coded3_call hp
  | cc _ => exact decode_of_coded3 coded3_cc hp
  | cnc _ => exact decode_of_coded3 coded3_cnc hp
  | cz _ => exact decode_of_coded3 coded3_cz hp
  | cnz _ => exact decode_of_coded3 coded3_cnz hp
  | cm _ => exact decode_of_coded3 coded3_cm hp
  | cp _ => exact decode_of_coded3 coded3_cp hp
  | cpe _ => exact decode_of_coded3 coded3_cpe hp
  | cpo _ => exact decode_of_coded3 coded3_cpo hp
  | ret => exact decode_of_coded1 coded1_ret hp
  | rc => exact decode_of_coded1 coded1_rc hp
  | rnc => exact decode_of_coded1 coded1_rnc hp
  | rz => exact decode_of_coded1 coded1_rz hp
  | rnz => exact decode_of_coded1 coded1_rnz hp
  | rm => exact decode_of_coded1 coded1_rm hp
  | rp => exact decode_of_coded1 coded1_rp hp
  | rpe => exact decode_of_coded1 coded1_rpe hp
  | rpo => exact decode_of_coded1 coded1_rpo hp

/-! ### The encoder undoes the decoder -/

/-- If the answer `x` for the bytes `b1 b2 b3` is an instruction, it is well formed and its bytes are the first of those. -/
def Reencodes (b1 b2 b3 : Byte) (x : Except Reject Instr) : Prop :=
  ∀ i, x = .ok i → i.WellFormed ∧ encode i = [b1, b2, b3].take i.length

theorem reencodes_error (b1 b2 b3 : Byte) (why : Reject) : Reencodes b1 b2 b3 (.error why) := nofun

theorem reencodes_of_coded1 {b : Byte} {i : Instr} (b2 b3 : Byte) (hwf : i.WellFormed) (h : Coded1 b i) :
    Reencodes b b2 b3 (.ok i) := by
  rintro _ ⟨⟩
  rw [Instr.length, h.1]
  exact ⟨hwf, rfl⟩

theorem reencodes_of_coded2 {b : Byte} {f : Byte → Instr} (b2 b3 : Byte) (hwf : (f b2).WellFormed) (h : Coded2 b f) :
    Reencodes b b2 b3 (.ok (f b2)) := by
  rintro _ ⟨⟩
  rw [Instr.length, (h b2 b3).1]
  exact ⟨hwf, rfl⟩

theorem reencodes_of_coded3 {b : Byte} {f : Word → Instr} (b2 b3 : Byte) (hwf : (f (wordOf b3 b2)).WellFormed)
    (h : Coded3 b f) : Reencodes b b2 b3 (.ok (f (wordOf b3 b2))) := by
  rintro _ ⟨⟩
  have henc : encode (f (wordOf b3 b2)) = [b, b2, b3] := (h b2 b3).1
  rw [Instr.length, henc]
  exact ⟨hwf, rfl⟩

/-- R103: what holds of the answer in each quarter, for all `y` and `z`, holds of the decoder's answer. -/
theorem decode_by_quarters {P : Byte → Except Reject Instr → Prop} (b1 b2 b3 : Byte)
    (h0 : ∀ y < 8, ∀ z < 8, P (BitVec.ofNat 8 (8 * y + z)) (decodeQuarter0 (BitVec.ofNat 8 (8 * y + z)) y z b2 b3))
    (h1 : ∀ y < 8, ∀ z < 8, P (BitVec.ofNat 8 (64 + 8 * y + z))
      (if BitVec.ofNat 8 (64 + 8 * y + z) = 0x76 then .ok .hlt else .ok (.mov (reg8OfCode y) (reg8OfCode z))))
    (h2 : ∀ y < 8, ∀ z < 8, P (BitVec.ofNat 8 (128 + 8 * y + z)) (.ok (decodeAccumulator y (reg8OfCode z))))
    (h3 : ∀ y < 8, ∀ z < 8,
      P (BitVec.ofNat 8 (192 + 8 * y + z)) (decodeQuarter3 (BitVec.ofNat 8 (192 + 8 * y + z)) y z b2 b3)) :
    P b1 (decode b1 b2 b3) := by
  have hy : b1.toNat / 8 % 8 < 8 := Nat.mod_lt _ (by decide)
  have hz : b1.toNat % 8 < 8 := Nat.mod_lt _ (by decide)
  have hq : b1.toNat / 64 < 4 := by omega
  have hb : b1 = BitVec.ofNat 8 (64 * (b1.toNat / 64) + 8 * (b1.toNat / 8 % 8) + b1.toNat % 8) := by
    rw [show 64 * (b1.toNat / 64) + 8 * (b1.toNat / 8 % 8) + b1.toNat % 8 = b1.toNat by omega]
    simp
  unfold decode
  generalize b1.toNat / 8 % 8 = y at *
  generalize b1.toNat % 8 = z at *
  generalize b1.toNat / 64 = q at *
  subst hb
  interval_cases q
  · simpa using h0 y hy z hz
  · exact h1 y hy z hz
  · exact h2 y hy z hz
  · exact h3 y hy z hz

/-- R94: each of the eight register codes is the code of the operand it selects. -/
theorem regCode_reg8OfCode {y : Nat} (hy : y < 8) : regCode (reg8OfCode y) = y := by
  interval_cases y <;> rfl

/-- R103, the quarter `00`, by `z` and then `y`. -/
theorem reencodes_quarter0 (b2 b3 : Byte) {y z : Nat} (hy : y < 8) (hz : z < 8) :
    Reencodes (BitVec.ofNat 8 (8 * y + z)) b2 b3 (decodeQuarter0 (BitVec.ofNat 8 (8 * y + z)) y z b2 b3) := by
  interval_cases z
  · interval_cases y
    · exact reencodes_of_coded1 _ _ nofun coded1_nop
    all_goals exact reencodes_error _ _ _ _
  · interval_cases y
    · exact reencodes_of_coded3 _ _ nofun (coded3_lxi .bc)
    · exact reencodes_of_coded1 _ _ nofun (coded1_dad .bc)
    · exact reencodes_of_coded3 _ _ nofun (coded3_lxi .de)
    · exact reencodes_of_coded1 _ _ nofun (coded1_dad .de)
    · exact reencodes_of_coded3 _ _ nofun (coded3_lxi .hl)
    · exact reencodes_of_coded1 _ _ nofun (coded1_dad .hl)
    · exact reencodes_of_coded3 _ _ nofun (coded3_lxi .sp)
    · exact reencodes_of_coded1 _ _ nofun (coded1_dad .sp)
  · interval_cases y
    · exact reencodes_of_coded1 _ _ nofun (coded1_stax .bc)
    · exact reencodes_of_coded1 _ _ nofun (coded1_ldax .bc)
    · exact reencodes_of_coded1 _ _ nofun (coded1_stax .de)
    · exact reencodes_of_coded1 _ _ nofun (coded1_ldax .de)
    · exact reencodes_of_coded3 _ _ nofun coded3_shld
    · exact reencodes_of_coded3 _ _ nofun coded3_lhld
    · exact reencodes_of_coded3 _ _ nofun coded3_sta
    · exact reencodes_of_coded3 _ _ nofun coded3_lda
  · interval_cases y
    · exact reencodes_of_coded1 _ _ nofun (coded1_inx .bc)
    · exact reencodes_of_coded1 _ _ nofun (coded1_dcx .bc)
    · exact reencodes_of_coded1 _ _ nofun (coded1_inx .de)
    · exact reencodes_of_coded1 _ _ nofun (coded1_dcx .de)
    · exact reencodes_of_coded1 _ _ nofun (coded1_inx .hl)
    · exact reencodes_of_coded1 _ _ nofun (coded1_dcx .hl)
    · exact reencodes_of_coded1 _ _ nofun (coded1_inx .sp)
    · exact reencodes_of_coded1 _ _ nofun (coded1_dcx .sp)
  · have hcoded := coded1_inr (reg8OfCode y)
    rw [regCode_reg8OfCode hy] at hcoded
    exact reencodes_of_coded1 _ _ nofun hcoded
  · have hcoded := coded1_dcr (reg8OfCode y)
    rw [regCode_reg8OfCode hy] at hcoded
    exact reencodes_of_coded1 _ _ nofun hcoded
  · have hcoded := coded2_mvi (reg8OfCode y)
    rw [regCode_reg8OfCode hy] at hcoded
    exact reencodes_of_coded2 _ _ nofun hcoded
  · interval_cases y
    · exact reencodes_of_coded1 _ _ nofun coded1_rlc
    · exact reencodes_of_coded1 _ _ nofun coded1_rrc
    · exact reencodes_of_coded1 _ _ nofun coded1_ral
    · exact reencodes_of_coded1 _ _ nofun coded1_rar
    · exact reencodes_of_coded1 _ _ nofun coded1_daa
    · exact reencodes_of_coded1 _ _ nofun coded1_cma
    · exact reencodes_of_coded1 _ _ nofun coded1_stc
    · exact reencodes_of_coded1 _ _ nofun coded1_cmc

/-- R103, the quarter `01`: HLT where both codes are 110 (R101), and MOV elsewhere. -/
theorem reencodes_quarter1 (b2 b3 : Byte) {y z : Nat} (hy : y < 8) (hz : z < 8) :
    Reencodes (BitVec.ofNat 8 (64 + 8 * y + z)) b2 b3
      (if BitVec.ofNat 8 (64 + 8 * y + z) = 0x76 then .ok .hlt else .ok (.mov (reg8OfCode y) (reg8OfCode z))) := by
  have hbyte := movByte_eq_hlt_iff (reg8OfCode y) (reg8OfCode z)
  rw [regCode_reg8OfCode hy, regCode_reg8OfCode hz] at hbyte
  split
  next h =>
    rw [h]
    exact reencodes_of_coded1 _ _ nofun coded1_hlt
  next h =>
    have hmm : (reg8OfCode y, reg8OfCode z) ≠ (.m, .m) := fun he => h (hbyte.mpr (Prod.ext_iff.mp he))
    have hcoded := coded1_mov hmm
    rw [regCode_reg8OfCode hy, regCode_reg8OfCode hz] at hcoded
    refine reencodes_of_coded1 _ _ (fun he => hmm ?_) hcoded
    obtain ⟨hd, hs⟩ := Instr.mov.inj he
    rw [hd, hs]

/-- R103, the quarter `10`: the accumulator operations. -/
theorem reencodes_quarter2 (b2 b3 : Byte) {y z : Nat} (hy : y < 8) (hz : z < 8) :
    Reencodes (BitVec.ofNat 8 (128 + 8 * y + z)) b2 b3 (.ok (decodeAccumulator y (reg8OfCode z))) := by
  have hcoded := coded1_accumulator hy (reg8OfCode z)
  rw [regCode_reg8OfCode hz] at hcoded
  exact reencodes_of_coded1 _ _ (by interval_cases y <;> nofun) hcoded

/-- R103, the quarter `11`, by `z` and then `y`. -/
theorem reencodes_quarter3 (b2 b3 : Byte) {y z : Nat} (hy : y < 8) (hz : z < 8) :
    Reencodes (BitVec.ofNat 8 (192 + 8 * y + z)) b2 b3 (decodeQuarter3 (BitVec.ofNat 8 (192 + 8 * y + z)) y z b2 b3) := by
  interval_cases z
  · interval_cases y
    · exact reencodes_of_coded1 _ _ nofun coded1_rnz
    · exact reencodes_of_coded1 _ _ nofun coded1_rz
    · exact reencodes_of_coded1 _ _ nofun coded1_rnc
    · exact reencodes_of_coded1 _ _ nofun coded1_rc
    · exact reencodes_of_coded1 _ _ nofun coded1_rpo
    · exact reencodes_of_coded1 _ _ nofun coded1_rpe
    · exact reencodes_of_coded1 _ _ nofun coded1_rp
    · exact reencodes_of_coded1 _ _ nofun coded1_rm
  · interval_cases y
    · exact reencodes_of_coded1 _ _ nofun (coded1_pop .bc)
    · exact reencodes_of_coded1 _ _ nofun coded1_ret
    · exact reencodes_of_coded1 _ _ nofun (coded1_pop .de)
    · exact reencodes_error _ _ _ _
    · exact reencodes_of_coded1 _ _ nofun (coded1_pop .hl)
    · exact reencodes_of_coded1 _ _ nofun coded1_pchl
    · exact reencodes_of_coded1 _ _ nofun (coded1_pop .psw)
    · exact reencodes_of_coded1 _ _ nofun coded1_sphl
  · interval_cases y
    · exact reencodes_of_coded3 _ _ nofun coded3_jnz
    · exact reencodes_of_coded3 _ _ nofun coded3_jz
    · exact reencodes_of_coded3 _ _ nofun coded3_jnc
    · exact reencodes_of_coded3 _ _ nofun coded3_jc
    · exact reencodes_of_coded3 _ _ nofun coded3_jpo
    · exact reencodes_of_coded3 _ _ nofun coded3_jpe
    · exact reencodes_of_coded3 _ _ nofun coded3_jp
    · exact reencodes_of_coded3 _ _ nofun coded3_jm
  · interval_cases y
    · exact reencodes_of_coded3 _ _ nofun coded3_jmp
    · exact reencodes_error _ _ _ _
    · exact reencodes_of_coded2 _ _ nofun coded2_outPort
    · exact reencodes_of_coded2 _ _ nofun coded2_inPort
    · exact reencodes_of_coded1 _ _ nofun coded1_xthl
    · exact reencodes_of_coded1 _ _ nofun coded1_xchg
    · exact reencodes_of_coded1 _ _ nofun coded1_di
    · exact reencodes_of_coded1 _ _ nofun coded1_ei
  · interval_cases y
    · exact reencodes_of_coded3 _ _ nofun coded3_cnz
    · exact reencodes_of_coded3 _ _ nofun coded3_cz
    · exact reencodes_of_coded3 _ _ nofun coded3_cnc
    · exact reencodes_of_coded3 _ _ nofun coded3_cc
    · exact reencodes_of_coded3 _ _ nofun coded3_cpo
    · exact reencodes_of_coded3 _ _ nofun coded3_cpe
    · exact reencodes_of_coded3 _ _ nofun coded3_cp
    · exact reencodes_of_coded3 _ _ nofun coded3_cm
  · interval_cases y
    · exact reencodes_of_coded1 _ _ nofun (coded1_push .bc)
    · exact reencodes_of_coded3 _ _ nofun coded3_call
    · exact reencodes_of_coded1 _ _ nofun (coded1_push .de)
    · exact reencodes_error _ _ _ _
    · exact reencodes_of_coded1 _ _ nofun (coded1_push .hl)
    · exact reencodes_error _ _ _ _
    · exact reencodes_of_coded1 _ _ nofun (coded1_push .psw)
    · exact reencodes_error _ _ _ _
  · exact reencodes_of_coded2 (f := decodeImmediate y) _ _ (by interval_cases y <;> nofun) (coded2_immediate hy)
  · have hbyte : 0b11#2 ++ BitVec.ofNat 3 y ++ 0b111#3 = BitVec.ofNat 8 (192 + 8 * y + 7) := by
      interval_cases y <;> rfl
    exact reencodes_of_coded1 _ _ nofun (hbyte ▸ coded1_rst (BitVec.ofNat 3 y))

/-- R102: what the decoder answers has for its bytes the first of the bytes decoded, so no two encodings are of one instruction. -/
theorem reencodes_decode (b1 b2 b3 : Byte) : Reencodes b1 b2 b3 (decode b1 b2 b3) :=
  decode_by_quarters (P := fun b x => Reencodes b b2 b3 x) b1 b2 b3
    (fun _ hy _ hz => reencodes_quarter0 b2 b3 hy hz) (fun _ hy _ hz => reencodes_quarter1 b2 b3 hy hz)
    (fun _ hy _ hz => reencodes_quarter2 b2 b3 hy hz) (fun _ hy _ hz => reencodes_quarter3 b2 b3 hy hz)

open Laws in
/-- R90: the first byte alone decides the length, from the lemma of each instruction. -/
theorem encode_length_eq_instrLength : ∀ i : Instr, EncodingLength.Statement i
  | .inPort p => EncodingLength.inPort p
  | .outPort p => EncodingLength.outPort p
  | .ei => EncodingLength.ei
  | .di => EncodingLength.di
  | .hlt => EncodingLength.hlt
  | .rst n => EncodingLength.rst n
  | .cmc => EncodingLength.cmc
  | .stc => EncodingLength.stc
  | .nop => EncodingLength.nop
  | .inr r => EncodingLength.inr r
  | .dcr r => EncodingLength.dcr r
  | .cma => EncodingLength.cma
  | .daa => EncodingLength.daa
  | .push p => EncodingLength.push p
  | .pop p => EncodingLength.pop p
  | .dad p => EncodingLength.dad p
  | .inx p => EncodingLength.inx p
  | .dcx p => EncodingLength.dcx p
  | .xchg => EncodingLength.xchg
  | .xthl => EncodingLength.xthl
  | .sphl => EncodingLength.sphl
  | .rlc => EncodingLength.rlc
  | .rrc => EncodingLength.rrc
  | .ral => EncodingLength.ral
  | .rar => EncodingLength.rar
  | .mov dst src => EncodingLength.mov dst src
  | .stax x => EncodingLength.stax x
  | .ldax x => EncodingLength.ldax x
  | .add r => EncodingLength.add r
  | .adc r => EncodingLength.adc r
  | .sub r => EncodingLength.sub r
  | .sbb r => EncodingLength.sbb r
  | .ana r => EncodingLength.ana r
  | .xra r => EncodingLength.xra r
  | .ora r => EncodingLength.ora r
  | .cmp r => EncodingLength.cmp r
  | .sta w => EncodingLength.sta w
  | .lda w => EncodingLength.lda w
  | .shld w => EncodingLength.shld w
  | .lhld w => EncodingLength.lhld w
  | .lxi p w => EncodingLength.lxi p w
  | .mvi r v => EncodingLength.mvi r v
  | .adi v => EncodingLength.adi v
  | .aci v => EncodingLength.aci v
  | .sui v => EncodingLength.sui v
  | .sbi v => EncodingLength.sbi v
  | .ani v => EncodingLength.ani v
  | .xri v => EncodingLength.xri v
  | .ori v => EncodingLength.ori v
  | .cpi v => EncodingLength.cpi v
  | .pchl => EncodingLength.pchl
  | .jmp w => EncodingLength.jmp w
  | .jc w => EncodingLength.jc w
  | .jnc w => EncodingLength.jnc w
  | .jz w => EncodingLength.jz w
  | .jnz w => EncodingLength.jnz w
  | .jm w => EncodingLength.jm w
  | .jp w => EncodingLength.jp w
  | .jpe w => EncodingLength.jpe w
  | .jpo w => EncodingLength.jpo w
  | .call w => EncodingLength.call w
  | .cc w => EncodingLength.cc w
  | .cnc w => EncodingLength.cnc w
  | .cz w => EncodingLength.cz w
  | .cnz w => EncodingLength.cnz w
  | .cm w => EncodingLength.cm w
  | .cp w => EncodingLength.cp w
  | .cpe w => EncodingLength.cpe w
  | .cpo w => EncodingLength.cpo w
  | .ret => EncodingLength.ret
  | .rc => EncodingLength.rc
  | .rnc => EncodingLength.rnc
  | .rz => EncodingLength.rz
  | .rnz => EncodingLength.rnz
  | .rm => EncodingLength.rm
  | .rp => EncodingLength.rp
  | .rpe => EncodingLength.rpe
  | .rpo => EncodingLength.rpo

/-- R90: the length of the answer is the one that the first byte decides. -/
theorem length_of_decode {b1 b2 b3 : Byte} {i : Instr} (h : decode b1 b2 b3 = .ok i) : i.length = instrLength b1 := by
  obtain ⟨b, rest, hcons, hlen⟩ := encode_length_eq_instrLength i
  have henc := (reencodes_decode b1 b2 b3 i h).2
  have hpos : i.length = rest.length + 1 := by rw [Instr.length, hcons, List.length_cons]
  rw [hcons, hpos, List.take_succ_cons] at henc
  rw [Instr.length, hlen, (List.cons.inj henc).1]

/-- Settles O7: the bytes by the quarters of R103, the length by the first byte of the encoding. -/
theorem encodeInvertsDecode : Obligations.EncodeInvertsDecode := by
  intro b1 b2 b3 i h
  obtain ⟨hwf, henc⟩ := reencodes_decode b1 b2 b3 i h
  exact ⟨hwf, length_of_decode h, henc⟩

/-! ### First bytes -/

/-- The twelve first bytes that no instruction uses (R104). -/
def undefinedBytes : List Byte := [0x08, 0x10, 0x18, 0x20, 0x28, 0x30, 0x38, 0xCB, 0xD9, 0xDD, 0xED, 0xFD]

/-- R104: each of the twelve is rejected, under its own name. -/
theorem decode_undefined {b : Byte} (h : b ∈ undefinedBytes) (b2 b3 : Byte) :
    decode b b2 b3 = .error (.undefinedOpcode b) := by
  simp only [undefinedBytes, List.mem_cons, List.not_mem_nil, or_false] at h
  rcases h with rfl | rfl | rfl | rfl | rfl | rfl | rfl | rfl | rfl | rfl | rfl | rfl <;> rfl

/-- R104, the quarter `00`: only `z = 0` with another `y` than NOP's has no instruction. -/
theorem quarter0_defined (b2 b3 : Byte) {y z : Nat} (hy : y < 8) (hz : z < 8) :
    BitVec.ofNat 8 (8 * y + z) ∈ undefinedBytes ∨ ∃ i, decodeQuarter0 (BitVec.ofNat 8 (8 * y + z)) y z b2 b3 = .ok i := by
  interval_cases z
  · interval_cases y
    · exact .inr ⟨_, rfl⟩
    all_goals exact .inl (by decide)
  all_goals
    right
    interval_cases y <;> exact ⟨_, rfl⟩

/-- R104, the quarter `11`: five pairs of `y` and `z` have no instruction. -/
theorem quarter3_defined (b2 b3 : Byte) {y z : Nat} (hy : y < 8) (hz : z < 8) :
    BitVec.ofNat 8 (192 + 8 * y + z) ∈ undefinedBytes ∨
      ∃ i, decodeQuarter3 (BitVec.ofNat 8 (192 + 8 * y + z)) y z b2 b3 = .ok i := by
  interval_cases z
  · exact .inr ⟨_, rfl⟩
  · interval_cases y
    · exact .inr ⟨_, rfl⟩
    · exact .inr ⟨_, rfl⟩
    · exact .inr ⟨_, rfl⟩
    · exact .inl (by decide)
    · exact .inr ⟨_, rfl⟩
    · exact .inr ⟨_, rfl⟩
    · exact .inr ⟨_, rfl⟩
    · exact .inr ⟨_, rfl⟩
  · exact .inr ⟨_, rfl⟩
  · interval_cases y
    · exact .inr ⟨_, rfl⟩
    · exact .inl (by decide)
    · exact .inr ⟨_, rfl⟩
    · exact .inr ⟨_, rfl⟩
    · exact .inr ⟨_, rfl⟩
    · exact .inr ⟨_, rfl⟩
    · exact .inr ⟨_, rfl⟩
    · exact .inr ⟨_, rfl⟩
  · exact .inr ⟨_, rfl⟩
  · interval_cases y
    · exact .inr ⟨_, rfl⟩
    · exact .inr ⟨_, rfl⟩
    · exact .inr ⟨_, rfl⟩
    · exact .inl (by decide)
    · exact .inr ⟨_, rfl⟩
    · exact .inl (by decide)
    · exact .inr ⟨_, rfl⟩
    · exact .inl (by decide)
  · exact .inr ⟨_, rfl⟩
  · exact .inr ⟨_, rfl⟩

/-- R104: a byte that is not one of the twelve begins an instruction, whatever follows it. -/
theorem decode_defined (b1 b2 b3 : Byte) : b1 ∈ undefinedBytes ∨ ∃ i, decode b1 b2 b3 = .ok i := by
  refine decode_by_quarters (P := fun b x => b ∈ undefinedBytes ∨ ∃ i, x = .ok i) b1 b2 b3
    (fun _ hy _ hz => quarter0_defined b2 b3 hy hz) (fun _ _ _ _ => .inr ?_) (fun _ _ _ _ => .inr ⟨_, rfl⟩)
    (fun _ hy _ hz => quarter3_defined b2 b3 hy hz)
  split <;> exact ⟨_, rfl⟩

/-- Settles O5: the twelve by evaluation, every other byte by the quarters of R103. -/
theorem theTwelveUndefinedFirstBytes : Obligations.TheTwelveUndefinedFirstBytes := by
  intro b1 b2 b3
  split
  next h => exact decode_undefined h b2 b3
  next h => exact (decode_defined b1 b2 b3).resolve_left h

/-- R90, R104: a byte begins an instruction of `n` bytes when it is defined and of that length. -/
theorem begins_eq (b b2 b3 : Byte) (n : Nat) :
    (match decode b b2 b3 with
      | .ok i => i.length == n
      | .error _ => false) = (decide (b ∉ undefinedBytes) && instrLength b == n) := by
  by_cases h : b ∈ undefinedBytes
  · simp [decode_undefined h, h]
  · obtain ⟨i, hi⟩ := (decode_defined b b2 b3).resolve_left h
    simp [hi, h, length_of_decode hi]

/-- Settles O4, by counting over the 256 bytes what the first byte alone decides. -/
theorem firstByteCounts : Obligations.FirstByteCounts := by
  intro b2 b3 begins
  have hbegins : ∀ n, begins n =
      fun k => decide (BitVec.ofNat 8 k ∉ undefinedBytes) && instrLength (BitVec.ofNat 8 k) == n :=
    fun n => funext fun k => begins_eq (BitVec.ofNat 8 k) b2 b3 n
  simp only [hbegins]
  decide +kernel

/-- Settles O3, by evaluation of the twelve words. -/
theorem writtenWordsDecode : Obligations.WrittenWordsDecode :=
  ⟨rfl, rfl, rfl, rfl, rfl, rfl, rfl, rfl, rfl, rfl, rfl, rfl⟩

end Sys2Proof.Machine

/-! ## What every instruction does and leaves

Every instruction answers a next state (R270), named `State.after`; the table says once what it is, in the model's operations. The
frames follow, one field of the state after the other, by the laws of these operations. -/

namespace Sys2Proof.Machine

open Claims Config

/-! ### The next state of each instruction -/

/-- The state that instruction `i` answers when it runs from `s`. -/
def State.after (s : State) : Instr → State
  | .inPort port => ((s.portRead port).2.setA (s.portRead port).1).advance 2
  | .outPort port => (s.portWrite port s.regs.a).advance 2
  | .ei => ((s.setInte true).setEiShadow s.params.eiDelay).advance 1
  | .di => (s.setInte false).advance 1
  | .hlt => (s.advance 1).setHalted true
  | .rst n => s.callTo (s.pc + 1) (rstTarget n)
  | .cmc => (s.setFlags { s.flags with cy := !s.flags.cy }).advance 1
  | .stc => (s.setFlags { s.flags with cy := true }).advance 1
  | .nop => s.advance 1
  | .inr r => (s.modifyOperand r inc8).advance 1
  | .dcr r => (s.modifyOperand r dec8).advance 1
  | .cma => (s.setA (~~~s.regs.a)).advance 1
  | .daa => ((s.setA (decimalAdjust s.regs.a s.flags).1).setFlags (decimalAdjust s.regs.a s.flags).2).advance 1
  | .push p => (s.pushBytes (s.pushOperand p).1 (s.pushOperand p).2).advance 1
  | .pop p => (s.pop16.2.popOperand p (hiByte s.pop16.1) (loByte s.pop16.1)).advance 1
  | .dad p =>
    ((s.setRegs (s.regs.setHl (add16 s.regs.hl (s.readPair p)).1)).setFlags
      { s.flags with cy := (add16 s.regs.hl (s.readPair p)).2 }).advance 1
  | .inx p => (s.writePair p (s.readPair p + 1)).advance 1
  | .dcx p => (s.writePair p (s.readPair p + 0xFFFF)).advance 1
  | .xchg => (s.setRegs { s.regs with h := s.regs.d, d := s.regs.h, l := s.regs.e, e := s.regs.l }).advance 1
  | .xthl =>
    (((s.readWord s.sp).2.writeWord s.sp s.regs.hl).setRegs (s.regs.setHl (s.readWord s.sp).1)).advance 1
  | .sphl => (s.setSp s.regs.hl).advance 1
  | .rlc => (s.setRotated (rotateLeft8 s.regs.a)).advance 1
  | .rrc => (s.setRotated (rotateRight8 s.regs.a)).advance 1
  | .ral => (s.setRotated (rotateLeftCarry s.regs.a s.flags.cy)).advance 1
  | .rar => (s.setRotated (rotateRightCarry s.regs.a s.flags.cy)).advance 1
  | .mov dst src => ((s.readOperand src).2.writeOperand dst (s.readOperand src).1).advance 1
  | .stax x => (s.writeByte (s.regs.indirect x) s.regs.a).advance 1
  | .ldax x => ((s.readByte (s.regs.indirect x)).2.setA (s.readByte (s.regs.indirect x)).1).advance 1
  | .add r => ((s.readOperand r).2.addToA (s.readOperand r).1 false).advance 1
  | .adc r => ((s.readOperand r).2.addToA (s.readOperand r).1 s.flags.cy).advance 1
  | .sub r => ((s.readOperand r).2.subFromA (s.readOperand r).1 false).advance 1
  | .sbb r => ((s.readOperand r).2.subFromA (s.readOperand r).1 s.flags.cy).advance 1
  | .ana r => ((s.readOperand r).2.logicOnA .and (s.readOperand r).1).advance 1
  | .xra r => ((s.readOperand r).2.logicOnA .xor (s.readOperand r).1).advance 1
  | .ora r => ((s.readOperand r).2.logicOnA .or (s.readOperand r).1).advance 1
  | .cmp r => ((s.readOperand r).2.compareA (s.readOperand r).1).advance 1
  | .sta addr => (s.writeByte addr s.regs.a).advance 3
  | .lda addr => ((s.readByte addr).2.setA (s.readByte addr).1).advance 3
  | .shld addr => (s.writeWord addr s.regs.hl).advance 3
  | .lhld addr => ((s.readWord addr).2.setRegs (s.regs.setHl (s.readWord addr).1)).advance 3
  | .lxi p d16 => (s.writePair p d16).advance 3
  | .mvi r d8 => (s.writeOperand r d8).advance 2
  | .adi d8 => (s.addToA d8 false).advance 2
  | .aci d8 => (s.addToA d8 s.flags.cy).advance 2
  | .sui d8 => (s.subFromA d8 false).advance 2
  | .sbi d8 => (s.subFromA d8 s.flags.cy).advance 2
  | .ani d8 => (s.logicOnA .and d8).advance 2
  | .xri d8 => (s.logicOnA .xor d8).advance 2
  | .ori d8 => (s.logicOnA .or d8).advance 2
  | .cpi d8 => (s.compareA d8).advance 2
  | .pchl => s.setPc s.regs.hl
  | .jmp addr => s.setPc addr
  | .jc addr => s.jumpIf .c addr
  | .jnc addr => s.jumpIf .nc addr
  | .jz addr => s.jumpIf .z addr
  | .jnz addr => s.jumpIf .nz addr
  | .jm addr => s.jumpIf .m addr
  | .jp addr => s.jumpIf .p addr
  | .jpe addr => s.jumpIf .pe addr
  | .jpo addr => s.jumpIf .po addr
  | .call addr => s.callTo (s.pc + 3) addr
  | .cc addr => s.callIf .c addr
  | .cnc addr => s.callIf .nc addr
  | .cz addr => s.callIf .z addr
  | .cnz addr => s.callIf .nz addr
  | .cm addr => s.callIf .m addr
  | .cp addr => s.callIf .p addr
  | .cpe addr => s.callIf .pe addr
  | .cpo addr => s.callIf .po addr
  | .ret => s.returnTo
  | .rc => s.returnIf .c
  | .rnc => s.returnIf .nc
  | .rz => s.returnIf .z
  | .rnz => s.returnIf .nz
  | .rm => s.returnIf .m
  | .rp => s.returnIf .p
  | .rpe => s.returnIf .pe
  | .rpo => s.returnIf .po

/-- R270: no instruction faults or is refused, and the table is the machine's own answer. -/
theorem exec_eq_after (i : Instr) (s : State) : exec i s = .next (s.after i) := by
  cases i <;> rfl

/-- The one state that an instruction answers. -/
theorem eq_after_of_exec {i : Instr} {s t : State} (h : exec i s = .next t) : t = s.after i :=
  (Host.Outcome.next.inj (h.symm.trans (exec_eq_after i s)))

/-! ### Control state, parameters, environment -/

theorem State.after_params (s : State) (i : Instr) : (s.after i).params = s.params := by
  cases i <;> simp [State.after]

theorem State.after_env (s : State) (i : Instr) : (s.after i).env = s.env := by
  cases i <;> simp [State.after]

/-- R35: INTE is written by EI and DI only. -/
theorem State.after_inte (s : State) {i : Instr} (hei : i ≠ .ei) (hdi : i ≠ .di) : (s.after i).inte = s.inte := by
  cases i
  case ei => exact absurd rfl hei
  case di => exact absurd rfl hdi
  all_goals simp [State.after]

/-- R36: halted is written by HLT only. -/
theorem State.after_halted (s : State) {i : Instr} (h : i ≠ .hlt) : (s.after i).halted = s.halted := by
  cases i
  case hlt => exact absurd rfl h
  all_goals simp [State.after]

/-- R285: ei_shadow is written by EI only. -/
theorem State.after_eiShadow (s : State) {i : Instr} (h : i ≠ .ei) : (s.after i).eiShadow = s.eiShadow := by
  cases i
  case ei => exact absurd rfl h
  all_goals simp [State.after]

/-- R72: the output trace is written by OUT only. -/
theorem State.after_outTrace (s : State) {i : Instr} (h : ∀ p, i ≠ .outPort p) : (s.after i).outTrace = s.outTrace := by
  cases i
  case outPort p => exact absurd rfl (h p)
  all_goals simp [State.after]

/-- R72: port reads are counted by IN only. -/
theorem State.after_ioReads (s : State) {i : Instr} (h : ∀ p, i ≠ .inPort p) : (s.after i).ioReads = s.ioReads := by
  cases i
  case inPort p => exact absurd rfl (h p)
  all_goals simp [State.after]

/-- Settles O19, field by field. -/
theorem controlFrame : Obligations.ControlFrame := by
  intro i s t h
  obtain rfl := eq_after_of_exec h
  exact ⟨s.after_params i, s.after_env i, s.after_inte, s.after_halted, s.after_eiShadow, s.after_outTrace, s.after_ioReads⟩

/-! ### PC and SP -/

/-- R230: where a jump that is not taken leaves PC. -/
theorem State.jumpIf_pc_of_not {s : State} {k : Cond} (h : s.flags.holds k = false) (a : Word) :
    (s.jumpIf k a).pc = s.pc + 3 := by
  simp [State.jumpIf, h]

/-- R230: where a call that is not taken leaves PC. -/
theorem State.callIf_pc_of_not {s : State} {k : Cond} (h : s.flags.holds k = false) (a : Word) :
    (s.callIf k a).pc = s.pc + 3 := by
  simp [State.callIf, h]

/-- R230: where a return that is not taken leaves PC. -/
theorem State.returnIf_pc_of_not {s : State} {k : Cond} (h : s.flags.holds k = false) : (s.returnIf k).pc = s.pc + 1 := by
  simp [State.returnIf, h]

/-- R26: an instruction that does not transfer control leaves PC at the next one. The conditional ones reduce to their condition,
which is false here; the others that write PC always transfer control. -/
theorem State.after_pc (s : State) {i : Instr} (h : transfers s.flags i = false) :
    (s.after i).pc = s.pc + BitVec.ofNat 16 i.length := by
  cases i
  case pchl | jmp | call | ret | rst => exact nomatch (show true = false from h)
  case jc | jnc | jz | jnz | jm | jp | jpe | jpo => exact State.jumpIf_pc_of_not (by exact h) _
  case cc | cnc | cz | cnz | cm | cp | cpe | cpo => exact State.callIf_pc_of_not (by exact h) _
  case rc | rnc | rz | rnz | rm | rp | rpe | rpo => exact State.returnIf_pc_of_not (by exact h)
  all_goals simp [State.after, Instr.length, encode, withWord]

/-- Settles O14. -/
theorem everyInstructionCompletes : Obligations.EveryInstructionCompletes :=
  fun i s => ⟨s.after i, exec_eq_after i s, s.after_pc⟩

/-- R24: of the four pairs only code 11 is SP. -/
theorem State.advance_writePair_sp (s : State) {p : PairA} (v : Word) (n : Nat) (h : p ≠ .sp) :
    ((s.writePair p v).advance n).sp = s.sp := by
  cases p
  case sp => exact absurd rfl h
  all_goals rfl

/-- R230: a taken call moves SP down by two. -/
theorem State.callIf_sp (s : State) (k : Cond) (a : Word) :
    (s.callIf k a).sp = if s.flags.holds k = true then s.sp - 2 else s.sp := by
  unfold State.callIf
  split <;> simp

/-- R230: a taken return moves SP up by two. -/
theorem State.returnIf_sp (s : State) (k : Cond) :
    (s.returnIf k).sp = if s.flags.holds k = true then s.sp + 2 else s.sp := by
  unfold State.returnIf
  split <;> simp

/-- R154: adding 0xFFFF takes one off. -/
theorem word_add_ffff (w : Word) : w + 0xFFFF = w - 1 := by
  rw [BitVec.sub_eq_add_neg]
  rfl

/-- R25: SP after every instruction. -/
theorem State.after_sp (s : State) (i : Instr) : (s.after i).sp = spAfter s i := by
  cases i
  case inx p | lxi p _ =>
    cases p
    case sp => rfl
    all_goals exact s.advance_writePair_sp _ _ nofun
  case dcx p =>
    cases p
    case sp => exact word_add_ffff s.sp
    all_goals exact s.advance_writePair_sp _ _ nofun
  case cc | cnc | cz | cnz | cm | cp | cpe | cpo => exact State.callIf_sp s _ _
  case rc | rnc | rz | rnz | rm | rp | rpe | rpo => exact State.returnIf_sp s _
  all_goals
    simp [State.after]
    rfl

/-- Settles O16. -/
theorem stackPointerAfterEachInstruction : Obligations.StackPointerAfterEachInstruction :=
  fun i s => ⟨s.after i, exec_eq_after i s, s.after_sp i⟩

/-! ### The general registers (R22) -/

/-- R21: the write of an operand leaves every other register as it was. -/
theorem register_writeOperand_other (s : State) {q r : Reg8} (v : Byte) (h : q ≠ r) :
    register (s.writeOperand r v).regs q = register s.regs q := by
  cases r
  case m => exact congrArg (register · q) (s.writeByte_regs s.regs.hl v)
  all_goals cases q <;> simp [State.writeOperand, register] at h ⊢

/-- A write of A leaves the other registers. -/
theorem register_with_a (r : Regs) (v : Byte) {q : Reg8} (h : q ≠ .a) : register { r with a := v } q = register r q := by
  cases q
  case a => exact absurd rfl h
  all_goals rfl

/-- A write of BC leaves the other registers. -/
theorem register_with_bc (r : Regs) (x y : Byte) {q : Reg8} (hb : q ≠ .b) (hc : q ≠ .c) :
    register { r with b := x, c := y } q = register r q := by
  cases q
  case b => exact absurd rfl hb
  case c => exact absurd rfl hc
  all_goals rfl

/-- A write of DE leaves the other registers. -/
theorem register_with_de (r : Regs) (x y : Byte) {q : Reg8} (hd : q ≠ .d) (he : q ≠ .e) :
    register { r with d := x, e := y } q = register r q := by
  cases q
  case d => exact absurd rfl hd
  case e => exact absurd rfl he
  all_goals rfl

/-- A write of HL leaves the other registers. -/
theorem register_with_hl (r : Regs) (x y : Byte) {q : Reg8} (hh : q ≠ .h) (hl : q ≠ .l) :
    register { r with h := x, l := y } q = register r q := by
  cases q
  case h => exact absurd rfl hh
  case l => exact absurd rfl hl
  all_goals rfl

@[simp] theorem State.addToA_regs (s : State) (b : Byte) (c : Bool) :
    (s.addToA b c).regs = { s.regs with a := (add8 s.regs.a b c s.flags).1 } := rfl

@[simp] theorem State.subFromA_regs (s : State) (b : Byte) (c : Bool) :
    (s.subFromA b c).regs = { s.regs with a := (sub8 s.regs.a b c s.flags).1 } := rfl

@[simp] theorem State.logicOnA_regs (s : State) (k : LogicKind) (b : Byte) :
    (s.logicOnA k b).regs = { s.regs with a := logicResult k s.regs.a b } := by
  simp [State.logicOnA, logic8]

/-- The registers after INR or DCR are those of the operand written. -/
theorem State.modifyOperand_regs (s : State) (r : Reg8) (f : Byte → Flags → Byte × Flags) :
    (s.modifyOperand r f).regs =
      ((s.readOperand r).2.writeOperand r (f (s.readOperand r).1 s.flags).1).regs := rfl

/-- R24: a write of a pair leaves the registers that are not in it. -/
theorem register_writePair (s : State) (p : PairA) (v : Word) {q : Reg8} (h : q ∉ destinations (.inx p)) :
    register (s.writePair p v).regs q = register s.regs q := by
  cases p
  case bc => exact register_with_bc _ _ _ (List.ne_of_not_mem_cons h) (List.ne_of_not_mem_cons (List.not_mem_of_not_mem_cons h))
  case de => exact register_with_de _ _ _ (List.ne_of_not_mem_cons h) (List.ne_of_not_mem_cons (List.not_mem_of_not_mem_cons h))
  case hl => exact register_with_hl _ _ _ (List.ne_of_not_mem_cons h) (List.ne_of_not_mem_cons (List.not_mem_of_not_mem_cons h))
  case sp => rfl

/-- R151: POP leaves the registers that are not in its pair. -/
theorem register_popOperand (s : State) (p : PairS) (x y : Byte) {q : Reg8} (h : q ∉ destinations (.pop p)) :
    register (s.popOperand p x y).regs q = register s.regs q := by
  cases p
  case bc => exact register_with_bc _ _ _ (List.ne_of_not_mem_cons h) (List.ne_of_not_mem_cons (List.not_mem_of_not_mem_cons h))
  case de => exact register_with_de _ _ _ (List.ne_of_not_mem_cons h) (List.ne_of_not_mem_cons (List.not_mem_of_not_mem_cons h))
  case hl => exact register_with_hl _ _ _ (List.ne_of_not_mem_cons h) (List.ne_of_not_mem_cons (List.not_mem_of_not_mem_cons h))
  case psw =>
    unfold State.popOperand
    dsimp only
    split <;> exact register_with_a _ _ (List.ne_of_not_mem_cons h)

/-- R22: the destinations of each instruction are all the registers it writes. -/
theorem State.register_after (s : State) (i : Instr) {q : Reg8} (h : q ∉ destinations i) :
    register (s.after i).regs q = register s.regs q := by
  cases i
  case inr r | dcr r | mov r _ | mvi r _ =>
    have hq : q ≠ r := List.ne_of_not_mem_cons h
    simp [State.after, State.modifyOperand_regs, register_writeOperand_other _ _ hq]
  case pop p => simp [State.after, register_popOperand _ _ _ _ h]
  case inx p => exact register_writePair s p _ h
  case dcx p | lxi p _ =>
    have hq : q ∉ destinations (.inx p) := by cases p <;> exact h
    exact register_writePair s p _ hq
  case dad | xthl | lhld =>
    have hh : q ≠ .h := List.ne_of_not_mem_cons h
    have hl : q ≠ .l := List.ne_of_not_mem_cons (List.not_mem_of_not_mem_cons h)
    simp [State.after, Regs.setHl, register_with_hl _ _ _ hh hl]
  case xchg =>
    have hq : q ∉ [Reg8.d, .e, .h, .l] := h
    simp only [List.mem_cons, not_or] at hq
    obtain ⟨hd, he, hh, hl, -⟩ := hq
    exact (register_with_hl { s.regs with d := s.regs.h, e := s.regs.l } _ _ hh hl).trans (register_with_de _ _ _ hd he)
  case inPort | cma | daa | rlc | rrc | ral | rar | ldax | lda | add | adc | sub | sbb | ana | xra | ora | adi | aci | sui
      | sbi | ani | xri | ori =>
    have hq : q ≠ .a := List.ne_of_not_mem_cons h
    simp [State.after, register_with_a _ _ hq]
  all_goals simp [State.after]

/-- Settles O15. -/
theorem registerFrame : Obligations.RegisterFrame := by
  intro i s t h q hq
  obtain rfl := eq_after_of_exec h
  exact s.register_after i hq

/-! ### The status bits (R34) -/

@[simp] theorem State.modifyOperand_flags (s : State) (r : Reg8) (f : Byte → Flags → Byte × Flags) :
    (s.modifyOperand r f).flags = (f (s.readOperand r).1 s.flags).2 := rfl

@[simp] theorem State.logicOnA_flags (s : State) (k : LogicKind) (b : Byte) :
    (s.logicOnA k b).flags = (logic8 s.params.acLogic k s.regs.a b s.drawnAc s.flags).2 := rfl

@[simp] theorem State.compareA_flags (s : State) (b : Byte) :
    (s.compareA b).flags = compareFlags s.params.acLogic s.regs.a b s.drawnAc s.flags := rfl

@[simp] theorem inc8_cy (v : Byte) (f : Flags) : (inc8 v f).2.cy = f.cy := rfl

@[simp] theorem dec8_cy (v : Byte) (f : Flags) : (dec8 v f).2.cy = f.cy := rfl

/-- R188: AC after a logic operation. -/
@[simp] theorem logic8_ac (p : AcLogic) (k : LogicKind) (a b : Byte) (drawn : Bool) (f : Flags) :
    (logic8 p k a b drawn f).2.ac = acAfter p f.ac (logicAc8080 k a b) drawn := rfl

/-- R192: AC after a comparison. -/
@[simp] theorem compareFlags_ac (p : AcLogic) (a b : Byte) (drawn : Bool) (f : Flags) :
    (compareFlags p a b drawn f).ac = acAfter p f.ac (sub8 a b false f).2.ac drawn := rfl

/-- D7: with AC_LOGIC = unaffected, AC stays. -/
@[simp] theorem acAfter_unaffected (before silicon drawn : Bool) : acAfter .unaffected before silicon drawn = before := rfl

/-- R151: only POP PSW loads the status bits. -/
theorem State.popOperand_flags_of_ne (s : State) {p : PairS} (x y : Byte) (h : p ≠ .psw) :
    (s.popOperand p x y).flags = s.flags := by
  cases p
  case psw => exact absurd rfl h
  all_goals rfl

/-- R34: the instructions that write S, Z and P. -/
theorem State.after_szp (s : State) {i : Instr} (h : writesSzp i = false) :
    (s.after i).flags.s = s.flags.s ∧ (s.after i).flags.z = s.flags.z ∧ (s.after i).flags.p = s.flags.p := by
  cases i
  case inr | dcr | daa | add | adc | sub | sbb | ana | xra | ora | cmp | adi | aci | sui | sbi | ani | xri | ori | cpi =>
    exact nomatch (show true = false from h)
  case pop p =>
    have hp : p ≠ .psw := by rintro rfl; exact nomatch (show true = false from h)
    simp [State.after, State.popOperand_flags_of_ne _ _ _ hp]
  all_goals simp [State.after]

/-- R34: the instructions that write AC. -/
theorem State.after_ac (s : State) {i : Instr} (h : writesAc s.params.acLogic i = false) :
    (s.after i).flags.ac = s.flags.ac := by
  cases i
  case inr | dcr | daa | add | adc | sub | sbb | adi | aci | sui | sbi => exact nomatch (show true = false from h)
  case pop p =>
    have hp : p ≠ .psw := by rintro rfl; exact nomatch (show true = false from h)
    simp [State.after, State.popOperand_flags_of_ne _ _ _ hp]
  case ana | xra | ora | cmp | ani | xri | ori | cpi =>
    have hk : s.params.acLogic = .unaffected := bne_eq_false_iff_eq.mp h
    simp [State.after, hk]
  all_goals simp [State.after]

/-- R34: the instructions that write CY. -/
theorem State.after_cy (s : State) {i : Instr} (h : writesCy i = false) : (s.after i).flags.cy = s.flags.cy := by
  cases i
  case daa | dad | rlc | rrc | ral | rar | stc | cmc | add | adc | sub | sbb | ana | xra | ora | cmp | adi | aci | sui | sbi
      | ani | xri | ori | cpi =>
    exact nomatch (show true = false from h)
  case pop p =>
    have hp : p ≠ .psw := by rintro rfl; exact nomatch (show true = false from h)
    simp [State.after, State.popOperand_flags_of_ne _ _ _ hp]
  all_goals simp [State.after]

/-- Settles O17, by the three rows of the table. -/
theorem statusBitFrame : Obligations.StatusBitFrame := by
  intro i s t h
  obtain rfl := eq_after_of_exec h
  exact ⟨s.after_szp, s.after_ac, s.after_cy⟩

/-! ### Memory (R67, R69) -/

/-- A write leaves every other address, and its own where that is not ram. -/
theorem State.read_writeByte_frame (s : State) {a b : Word} (v : Byte) (h : b ≠ a ∨ s.kind b ≠ .ram) :
    Memory.read (s.writeByte a v).mem b = Memory.read s.mem b := by
  rw [State.read_writeByte, if_neg]
  rintro ⟨rfl, hram⟩
  exact h.elim (fun hne => hne rfl) (fun hk => hk hram)

/-- Two writes leave every address outside them. -/
theorem State.read_writeByte_writeByte_frame (s : State) {a a' b : Word} (v v' : Byte)
    (h : b ∉ [a, a'] ∨ s.kind b ≠ .ram) :
    Memory.read ((s.writeByte a v).writeByte a' v').mem b = Memory.read s.mem b := by
  rw [State.read_writeByte_frame, State.read_writeByte_frame]
  · exact h.imp List.ne_of_not_mem_cons id
  · exact h.imp (fun hb => List.ne_of_not_mem_cons (List.not_mem_of_not_mem_cons hb)) (by simp)

/-- A call that is taken stores at SP-1 and SP-2, one that is not stores nothing. -/
theorem State.read_callIf_frame (s : State) (k : Cond) (addr : Word) {b : Word}
    (h : b ∉ (if s.flags.holds k = true then [s.sp - 1, s.sp - 2] else []) ∨ s.kind b ≠ .ram) :
    Memory.read (s.callIf k addr).mem b = Memory.read s.mem b := by
  rcases s.callIf_cases k addr with ⟨hk, heq⟩ | ⟨hk, heq⟩
  · rw [if_pos hk] at h
    rw [heq]
    exact s.read_writeByte_writeByte_frame _ _ h
  · rw [heq, State.advance_mem]

/-- The write of an operand stores for M alone. -/
theorem State.read_writeOperand_frame (s : State) {r : Reg8} (v : Byte) {b : Word}
    (h : r = .m → b ≠ s.regs.hl ∨ s.kind b ≠ .ram) :
    Memory.read (s.writeOperand r v).mem b = Memory.read s.mem b := by
  cases r
  case m => exact s.read_writeByte_frame v (h rfl)
  all_goals rfl

/-- The read of an operand leaves the map of memory kinds. -/
@[simp] theorem State.kind_readOperand (s : State) (r : Reg8) (a : Word) : (s.readOperand r).2.kind a = s.kind a :=
  State.kind_eq_of_params (s.readOperand_params r) a

/-- The read of a word leaves the map of memory kinds. -/
@[simp] theorem State.kind_readWord (s : State) (a b : Word) : (s.readWord a).2.kind b = s.kind b :=
  State.kind_eq_of_params (s.readWord_params a) b

/-- R67: the addresses that each instruction stores to, for every instruction and every state. -/
theorem State.read_after (s : State) (i : Instr) {b : Word} (h : b ∉ stores s i ∨ s.kind b ≠ .ram) :
    Memory.read (s.after i).mem b = Memory.read s.mem b := by
  cases i
  case inr r | dcr r | mov r _ | mvi r _ =>
    have hm : r = .m → b ≠ s.regs.hl ∨ s.kind b ≠ .ram := by
      rintro rfl
      exact h.imp List.ne_of_not_mem_cons id
    exact (State.read_writeOperand_frame _ _ (by simpa using hm)).trans (by simp)
  case stax | sta => exact s.read_writeByte_frame _ (h.imp List.ne_of_not_mem_cons id)
  case shld | push | rst | call => exact s.read_writeByte_writeByte_frame _ _ h
  case xthl =>
    have hframe := (s.readWord s.sp).2.read_writeByte_writeByte_frame (loByte s.regs.hl) (hiByte s.regs.hl)
      (a := s.sp) (a' := s.sp + 1) (b := b) (h.imp id (by simp))
    simpa [State.after, State.writeWord] using hframe
  case cc | cnc | cz | cnz | cm | cp | cpe | cpo => exact s.read_callIf_frame _ _ h
  all_goals simp [State.after]

/-- Settles O18. -/
theorem memoryFrame : Obligations.MemoryFrame := by
  intro i s t h a ha
  obtain rfl := eq_after_of_exec h
  exact s.read_after i ha

/-- R69: no instruction changes a byte that is not ram. -/
theorem State.read_after_of_not_ram (s : State) (i : Instr) {a : Word} (h : s.kind a ≠ .ram) :
    Memory.read (s.after i).mem a = Memory.read s.mem a := s.read_after i (.inr h)

end Sys2Proof.Machine

/-! ## The step

What one step is in each of the situations that the boundary can be in, and what it fetches: the bytes read one after the other from
PC, as many as the instruction has. -/

namespace Sys2Proof.Machine

open Claims Config

/-! ### The move of the environment -/

/-- R273, R285: an offer is accepted unless INTE is 0 or the bar of EI_DELAY is up. -/
theorem State.accepts_eq_false_iff (s : State) :
    s.accepts = false ↔ s.inte = false ∨ (s.params.eiDelay = true ∧ s.eiShadow = true) := by
  cases h : s.inte <;> simp [State.accepts, h]

theorem State.accepts_setEnv (s : State) (e : List Boundary) : (s.setEnv e).accepts = s.accepts := rfl

/-- R300: a reset is taken, whatever else the boundary holds. -/
theorem step_of_reset {s : State} {k : ResetKind} (h : s.boundary.reset = some k) :
    step s = .next ((s.setEnv s.env.tail).resetMove k) := by
  simp only [step, State.move, h]

/-- R273: an accepted offer is taken. -/
theorem step_of_accepted {s : State} {b : Byte} (hreset : s.boundary.reset = none) (hoffer : s.boundary.offer = some b)
    (haccepts : s.accepts = true) : step s = (s.setEnv s.env.tail).acceptOffer b := by
  simp only [step, State.move, hreset, hoffer, State.accepts_setEnv, haccepts, if_true]

/-- R40: at every other boundary the processor makes its own step. -/
theorem step_of_undisturbed {s : State} (h : Undisturbed s) : step s = (s.setEnv s.env.tail).processorStep := by
  obtain ⟨hreset, hoffer⟩ := h
  cases hb : s.boundary.offer with
  | none => simp only [step, State.move, hreset, hb]
  | some b =>
    have haccepts : s.accepts = false := s.accepts_eq_false_iff.mpr (hoffer.resolve_left (by simp [hb]))
    simp [step, State.move, hreset, hb, State.accepts_setEnv, haccepts]

/-- R36: the halted processor does nothing. -/
theorem step_of_halted {s : State} (hhalted : s.halted = true) (h : Undisturbed s) :
    step s = .next (s.setEnv s.env.tail) := by
  rw [step_of_undisturbed h]
  exact if_pos hhalted

/-! ### The fetch (R40, R67) -/

/-- The environment's list plays no part in a read. -/
theorem State.readByte_setEnv (s : State) (e : List Boundary) (a : Word) :
    (s.setEnv e).readByte a = ((s.readByte a).1, (s.readByte a).2.setEnv e) := by
  have hkind : (s.setEnv e).kind a = s.kind a := rfl
  unfold State.readByte
  rw [hkind]
  cases s.kind a <;> rfl

theorem readBytes_setEnv (s : State) (e : List Boundary) (a : Word) (n : Nat) :
    readBytes (s.setEnv e) a n = ((readBytes s a n).1, (readBytes s a n).2.setEnv e) := by
  induction n generalizing s a with
  | zero => rfl
  | succ n ih => simp only [readBytes, State.readByte_setEnv, ih]

/-- Reads where there is memory answer its bytes and change nothing. -/
theorem readBytes_present {s : State} {a : Word} {n : Nat} (h : ∀ k < n, s.present (a + BitVec.ofNat 16 k)) :
    readBytes s a n = ((List.range n).map fun k => Memory.read s.mem (a + BitVec.ofNat 16 k), s) := by
  induction n generalizing a with
  | zero => rfl
  | succ n ih =>
    have hhead : s.kind a ≠ .absent := by simpa [State.present] using h 0 n.succ_pos
    have haddr : ∀ k, a + 1 + BitVec.ofNat 16 k = a + BitVec.ofNat 16 (k + 1) := by
      intro k
      rw [BitVec.add_assoc, Nat.add_comm k 1, BitVec.ofNat_add]
      rfl
    have htail : ∀ k < n, s.present (a + 1 + BitVec.ofNat 16 k) := fun k hk => haddr k ▸ h (k + 1) (Nat.succ_lt_succ hk)
    rw [List.range_succ_eq_map, List.map_cons, List.map_map, BitVec.add_zero]
    simp only [readBytes, State.readByte_present hhead, ih htail, haddr, Function.comp_def, Nat.succ_eq_add_one]

/-- R90: an instruction has one, two or three bytes. -/
theorem instrLength_cases (b : Byte) : instrLength b = 1 ∨ instrLength b = 2 ∨ instrLength b = 3 := by
  unfold instrLength
  dsimp only
  repeat' split
  all_goals decide

/-- R40: the bytes fetched are those read one after the other from PC, as many as the first of them decides. -/
theorem State.fetch_eq_readBytes (s : State) :
    let r := readBytes s s.pc (instrLength (effectiveByte s.params (s.readByte s.pc).1))
    s.fetch = (decodeUnder s.params (r.1.getD 0 0) (r.1.getD 1 0) (r.1.getD 2 0), r.2) := by
  have haddr : s.pc + 1#16 + 1#16 = s.pc + 2#16 := BitVec.add_assoc _ _ _
  rcases instrLength_cases (effectiveByte s.params (s.readByte s.pc).1) with hn | hn | hn
  all_goals simp [State.fetch, hn, readBytes, haddr]

theorem State.fetch_setEnv (s : State) (e : List Boundary) : (s.setEnv e).fetch = (s.fetch.1, s.fetch.2.setEnv e) := by
  rw [State.fetch_eq_readBytes, State.fetch_eq_readBytes]
  simp only [State.readByte_setEnv, readBytes_setEnv, State.setEnv_params, State.setEnv_pc]

/-- R40: the running processor executes what it fetched. -/
theorem step_of_fetch_ok {s : State} {i : Instr} (hrunning : s.halted = false) (h : Undisturbed s) (hfetch : s.fetch.1 = .ok i) :
    step s = exec i { s.fetch.2 with env := s.env.tail, eiShadow := false } := by
  rw [step_of_undisturbed h, State.processorStep, if_neg (by simp [hrunning]), State.fetch_setEnv, hfetch]
  rfl

/-- R104: the running processor stops at what it cannot decode. -/
theorem step_of_fetch_error {s : State} {why : Reject} (hrunning : s.halted = false) (h : Undisturbed s)
    (hfetch : s.fetch.1 = .error why) : step s = .refused (.rejected why) := by
  rw [step_of_undisturbed h, State.processorStep, if_neg (by simp [hrunning]), State.fetch_setEnv, hfetch]

/-! ### Decoding under the parameters (R104, R24) -/

/-- A byte that the parameters do not refuse is decoded as the byte it stands for. -/
theorem decodeUnder_eq_ok_iff (p : Params) (b1 b2 b3 : Byte) (i : Instr) :
    decodeUnder p b1 b2 b3 = .ok i ↔
      ¬ (p.gkFamily = .refuse ∧ isGeneralKnowledge b1 = true) ∧ ¬ (p.rp11Arith = .refuse ∧ isPair11Arith b1 = true) ∧
        decode (effectiveByte p b1) b2 b3 = .ok i := by
  unfold decodeUnder
  split
  · simp_all
  · split <;> simp_all

theorem length_of_decodeUnder {p : Params} {b1 b2 b3 : Byte} {i : Instr} (h : decodeUnder p b1 b2 b3 = .ok i) :
    i.length = instrLength (effectiveByte p b1) :=
  length_of_decode ((decodeUnder_eq_ok_iff p b1 b2 b3 i).mp h).2.2

/-- R40: a byte that the instruction does not have is not used. -/
theorem decode_congr {b1 b2 b3 c2 c3 : Byte} {i : Instr} (h : decode b1 b2 b3 = .ok i)
    (hbytes : [b1, c2, c3].take i.length = [b1, b2, b3].take i.length) : decode b1 c2 c3 = .ok i := by
  obtain ⟨hwf, henc⟩ := reencodes_decode b1 b2 b3 i h
  refine decodeInvertsEncode i b1 c2 c3 hwf ?_
  rw [henc, ← hbytes]
  exact List.take_prefix _ _

theorem decodeUnder_congr {p : Params} {b1 b2 b3 c2 c3 : Byte} {i : Instr} (h : decodeUnder p b1 b2 b3 = .ok i)
    (h2 : 2 ≤ i.length → c2 = b2) (h3 : 3 ≤ i.length → c3 = b3) : decodeUnder p b1 c2 c3 = .ok i := by
  obtain ⟨hgk, hpair, hdec⟩ := (decodeUnder_eq_ok_iff p b1 b2 b3 i).mp h
  refine (decodeUnder_eq_ok_iff p b1 c2 c3 i).mpr ⟨hgk, hpair, decode_congr hdec ?_⟩
  have hlen := instrLength_cases (effectiveByte p b1)
  rw [← length_of_decodeUnder h] at hlen
  rcases hlen with hn | hn | hn
  · simp [hn]
  · simp [hn, h2]
  · simp [hn, h2, h3]

/-- Settles O9: the first byte read decides the length, so the fetch reads the very bytes that are given. -/
theorem stepRunsTheBytesItReads : Obligations.StepRunsTheBytesItReads := by
  intro s i r hrunning hund hdec
  have hlen := length_of_decodeUnder hdec
  have hpos : i.length ≠ 0 := by
    rcases instrLength_cases (effectiveByte s.params (r.1.getD 0 0)) with h | h | h <;> omega
  have hfirst : r.1.getD 0 0 = (s.readByte s.pc).1 := by
    obtain ⟨n, hn⟩ := Nat.exists_eq_succ_of_ne_zero hpos
    simp [r, hn, readBytes]
  have hfetch : s.fetch = (decodeUnder s.params (r.1.getD 0 0) (r.1.getD 1 0) (r.1.getD 2 0), r.2) := by
    rw [State.fetch_eq_readBytes, ← hfirst, ← hlen]
  rw [step_of_fetch_ok hrunning hund (i := i) (by rw [hfetch, hdec]), hfetch]

/-- Settles O8: with memory there, the reads answer the bytes of memory and change nothing. -/
theorem stepRunsTheDecodedInstruction : Obligations.StepRunsTheDecodedInstruction := by
  intro s i hrunning hund hdec hpresent
  have hread := readBytes_present hpresent
  have hrun := stepRunsTheBytesItReads s i
  simp only [hread] at hrun
  refine hrun hrunning hund ?_
  have hlen := instrLength_cases (effectiveByte s.params (Memory.read s.mem s.pc))
  rw [← length_of_decodeUnder hdec] at hlen
  have hfirst : ((List.range i.length).map fun k => Memory.read s.mem (s.pc + BitVec.ofNat 16 k)).getD 0 0 =
      Memory.read s.mem s.pc := by
    rcases hlen with h | h | h <;> simp [h]
  rw [hfirst]
  refine decodeUnder_congr hdec (fun h2 => ?_) (fun h3 => ?_)
  · rcases hlen with h | h | h
    · omega
    all_goals simp [h]
  · rcases hlen with h | h | h
    · omega
    · omega
    · simp [h]

/-- R104: what the fetch decodes begins with the byte read at PC. -/
theorem State.fetch_first (s : State) : ∃ b2 b3, s.fetch.1 = decodeUnder s.params (s.readByte s.pc).1 b2 b3 := ⟨_, _, rfl⟩

/-- R104: the 22 bytes of the undescribed instructions, with GK_FAMILY = refuse. -/
theorem decodeUnder_notDescribed {p : Params} {b : Byte} (hp : p.gkFamily = .refuse) (hb : isGeneralKnowledge b = true)
    (b2 b3 : Byte) : decodeUnder p b b2 b3 = .error (.notDescribed b) := if_pos ⟨hp, hb⟩

/-- R24: the three bytes of pair code 11, with RP11_ARITH = refuse. -/
theorem decodeUnder_pairCodeRefused {p : Params} {b : Byte} (hp : p.rp11Arith = .refuse) (hgk : isGeneralKnowledge b = false)
    (hb : isPair11Arith b = true) (b2 b3 : Byte) : decodeUnder p b b2 b3 = .error (.pairCodeRefused b) := by
  simp [decodeUnder, hp, hgk, hb]

/-- R104: the twelve bytes, with UNDEF_OPCODE = refuse. -/
theorem decodeUnder_undefinedOpcode {p : Params} {b : Byte} (hp : p.undefOpcode = .refuse) (hgk : isGeneralKnowledge b = false)
    (hpair : isPair11Arith b = false) (hb : b ∈ undefinedBytes) (b2 b3 : Byte) :
    decodeUnder p b b2 b3 = .error (.undefinedOpcode b) := by
  simp [decodeUnder, effectiveByte, hp, hgk, hpair, decode_undefined hb]

/-- The twelve bytes are neither of the undescribed instructions nor of pair code 11. -/
theorem not_refused_of_mem_undefinedBytes :
    ∀ b ∈ undefinedBytes, isGeneralKnowledge b = false ∧ isPair11Arith b = false := by
  decide

/-- Settles O10. The three lists of bytes are disjoint, so no reason hides another. -/
theorem stepRefusesWhatTheParametersRefuse : Obligations.StepRefusesWhatTheParametersRefuse := by
  intro s b hrunning hund
  obtain ⟨b2, b3, hfetch⟩ := s.fetch_first
  have hgk : ∀ b ∈ ([0x01, 0x11, 0x21, 0x31, 0x06, 0x0E, 0x16, 0x1E, 0x26, 0x2E, 0x36, 0x3E, 0xC6, 0xCE, 0xD6, 0xDE, 0xE6,
      0xEE, 0xF6, 0xFE, 0xDB, 0xD3] : List Byte), isGeneralKnowledge b = true := by decide
  have hpair : ∀ b ∈ ([0x39, 0x33, 0x3B] : List Byte), isGeneralKnowledge b = false ∧ isPair11Arith b = true := by decide
  refine ⟨fun hp hb => ?_, fun hp hb => ?_, fun hp hb => ?_⟩
  · exact step_of_fetch_error hrunning hund (hfetch.trans (decodeUnder_notDescribed hp (hgk b hb) b2 b3))
  · exact step_of_fetch_error hrunning hund
      (hfetch.trans (decodeUnder_pairCodeRefused hp (hpair b hb).1 (hpair b hb).2 b2 b3))
  · obtain ⟨hgk, hpair⟩ := not_refused_of_mem_undefinedBytes b hb
    exact step_of_fetch_error hrunning hund (hfetch.trans (decodeUnder_undefinedOpcode hp hgk hpair hb b2 b3))

/-- R104: with the Intel 8080's reading of the twelve bytes, each decodes as the byte it stands for. -/
theorem decodeUnder_i8080 {p : Params} {b b2 b3 : Byte} {i : Instr} (hp : p.undefOpcode = .i8080Alias) (hb : b ∈ undefinedBytes)
    (hdec : decode (i8080Alias b) b2 b3 = .ok i) : decodeUnder p b b2 b3 = .ok i := by
  obtain ⟨hgk, hpair⟩ := not_refused_of_mem_undefinedBytes b hb
  refine (decodeUnder_eq_ok_iff p b b2 b3 i).mpr ⟨?_, ?_, by rw [effectiveByte, hp]; exact hdec⟩
  · simp [hgk]
  · simp [hpair]

/-- Settles O11, by what the decoder answers for the byte that each of the twelve stands for. -/
theorem undefinedBytesRunAsAliases : Obligations.UndefinedBytesRunAsAliases := by
  intro s hrunning hund hpresent hp b addr u
  have hrun : ∀ i, b ∈ undefinedBytes →
      decode (i8080Alias b) (Memory.read s.mem (s.pc + 1)) (Memory.read s.mem (s.pc + 2)) = .ok i → step s = exec i u :=
    fun i hb hdec => stepRunsTheDecodedInstruction s i hrunning hund (decodeUnder_i8080 hp hb hdec) fun _ _ => hpresent _
  have hnop : ∀ b ∈ ([0x08, 0x10, 0x18, 0x20, 0x28, 0x30, 0x38] : List Byte), b ∈ undefinedBytes ∧ i8080Alias b = 0x00 := by
    decide
  have hcall : ∀ b ∈ ([0xDD, 0xED, 0xFD] : List Byte), b ∈ undefinedBytes ∧ i8080Alias b = 0xCD := by decide
  refine ⟨fun hb => ?_, fun hb => ?_, fun hb => ?_, fun hb => ?_⟩
  · exact hrun _ (hnop b hb).1 (by rw [(hnop b hb).2]; exact coded1_nop.2 _ _)
  · exact hrun _ (by rw [hb]; decide) (by rw [hb]; exact (coded3_jmp _ _).2)
  · exact hrun _ (by rw [hb]; decide) (by rw [hb]; exact coded1_ret.2 _ _)
  · exact hrun _ (hcall b hb).1 (by rw [(hcall b hb).2]; exact (coded3_call _ _).2)

/-- Settles O12: the byte read back at the stored address is the instruction's only byte. -/
theorem storedByteIsFetchedNext : Obligations.StoredByteIsFetchedNext := by
  intro s i hrunning hund hram henc hdec
  refine ⟨_, exec_sta s (s.pc + 3), rfl, ?_⟩
  have hone : i.length = 1 := by rw [Instr.length, henc]; rfl
  have hbyte : Memory.read (s.writeByte (s.pc + 3) s.regs.a).mem (s.pc + 3) = s.regs.a := by
    rw [State.read_writeByte, if_pos ⟨rfl, hram⟩]
  refine stepRunsTheDecodedInstruction _ i ?_ ?_ ?_ ?_
  · simpa using hrunning
  · simpa [Undisturbed, State.boundary] using hund
  · simp only [hbyte, State.writeByte_params]
    exact decodeUnder_congr hdec (by omega) (by omega)
  · intro k hk
    obtain rfl : k = 0 := by omega
    have hkind : s.kind (s.pc + 3) ≠ .absent := by rw [hram]; nofun
    simpa [State.present, State.kind] using hkind

end Sys2Proof.Machine

/-! ## What every step keeps

The invariant, the bytes outside ram, the output trace, and the independence of the free values drawn: each is kept by every
instruction and by the two moves of the environment, so by every step and every run. -/

namespace Sys2Proof.Machine

open Claims Config

/-! ### The next states of a step -/

/-- The state in which the instruction at PC runs: the boundary taken off, the bytes fetched, ei_shadow 0. -/
def State.fetched (s : State) : State := (s.setEnv s.env.tail).fetch.2.setEiShadow false

/-- A step that answers a next state is a reset, the entry to an interrupt, a wait, or one instruction of the running machine. -/
theorem step_next_cases {s t : State} (hstep : step s = .next t) :
    (∃ k, s.boundary.reset = some k ∧ t = (s.setEnv s.env.tail).resetMove k) ∨
      (∃ n, t = (s.setEnv s.env.tail).takeInterrupt n) ∨ t = s.setEnv s.env.tail ∨
      (s.halted = false ∧ ∃ i, t = s.fetched.after i) := by
  rcases step_cases s with
    ⟨k, hk, h⟩ | ⟨-, ⟨b, -, -, ⟨-, h⟩ | ⟨-, h⟩⟩ | ⟨-, ⟨-, h⟩ | ⟨hrunning, ⟨i, -, h⟩ | ⟨why, -, h⟩⟩⟩⟩
  all_goals rw [h] at hstep
  · exact .inl ⟨k, hk, (Host.Outcome.next.inj hstep).symm⟩
  · exact .inr (.inl ⟨_, (Host.Outcome.next.inj hstep).symm⟩)
  · exact nomatch hstep
  · exact .inr (.inr (.inl (Host.Outcome.next.inj hstep).symm))
  · exact .inr (.inr (.inr ⟨hrunning, i, eq_after_of_exec hstep⟩))
  · exact nomatch hstep

/-! ### The invariant -/

theorem State.callIf_wf {s : State} (h : Memory.wf s.mem) (k : Cond) (a : Word) : Memory.wf (s.callIf k a).mem := by
  rcases s.callIf_cases k a with ⟨-, heq⟩ | ⟨-, heq⟩
  · rw [heq]
    exact State.callTo_wf h _ _
  · rw [heq]
    exact h

/-- Every instruction keeps the canonical form: what stores, stores by writes, and the others leave memory. -/
theorem State.after_wf {s : State} (h : Memory.wf s.mem) (i : Instr) : Memory.wf (s.after i).mem := by
  cases i
  case inr r | dcr r | mov _ r =>
    have hread : Memory.wf (s.readOperand r).2.mem := by rwa [State.readOperand_mem]
    exact State.writeOperand_wf hread _ _
  case mvi => exact State.writeOperand_wf h _ _
  case stax | sta => exact State.writeByte_wf h _ _
  case shld => exact State.writeWord_wf h _ _
  case xthl =>
    have hread : Memory.wf (s.readWord s.sp).2.mem := by rwa [State.readWord_mem]
    exact State.writeWord_wf hread _ _
  case push => exact State.pushBytes_wf h _ _
  case rst | call => exact State.callTo_wf h _ _
  case cc | cnc | cz | cnz | cm | cp | cpe | cpo => exact State.callIf_wf h _ _
  all_goals simpa [State.after] using h

/-- R285: after an instruction that ran with ei_shadow 0 in the running machine, ei_shadow is set by EI alone, which sets INTE
too. -/
theorem State.after_inv {s : State} (hwf : Memory.wf s.mem) (hshadow : s.eiShadow = false) (hrunning : s.halted = false)
    (i : Instr) : (s.after i).Inv := by
  refine ⟨State.after_wf hwf i, ?_⟩
  by_cases hi : i = .ei
  · subst hi
    exact ⟨id, fun _ => ⟨rfl, hrunning⟩⟩
  · rw [s.after_eiShadow hi, hshadow]
    exact ⟨fun _ => rfl, nofun⟩

/-- Settles O13, by what a step can be. -/
theorem stepKeepsTheInvariant : Obligations.StepKeepsTheInvariant := by
  rintro s t ⟨hwf, hdelay, hshadow⟩ hstep
  have hwf' : Memory.wf (s.setEnv s.env.tail).mem := hwf
  rcases step_next_cases hstep with ⟨k, -, rfl⟩ | ⟨n, rfl⟩ | rfl | ⟨hrunning, i, rfl⟩
  · exact ⟨State.resetMem_wf hwf' k, fun _ => rfl, nofun⟩
  · refine ⟨State.takeInterrupt_wf hwf' n, ?_⟩
    rw [State.takeInterrupt_eiShadow]
    exact ⟨fun _ => rfl, nofun⟩
  · exact ⟨hwf, hdelay, hshadow⟩
  · exact State.after_inv (by simpa [State.fetched] using hwf) rfl (by simpa [State.fetched] using hrunning) i

/-- Settles O2: memory lists nothing, and ei_shadow is 0. -/
theorem resetMeetsTheInvariant : Obligations.ResetMeetsTheInvariant :=
  ⟨reset_mem_wf, fun _ => rfl, nofun⟩

/-- Settles O1, by evaluation. -/
theorem resetLeavesTheControlState : Obligations.ResetLeavesTheControlState := ⟨rfl, rfl, rfl, rfl, rfl⟩

/-! ### Bytes outside ram (R69) -/

/-- R300: a reset move writes ram at most, and that after a power cycle only. -/
theorem State.read_resetMem (s : State) (k : ResetKind) (a : Word) :
    Memory.read (s.resetMem k) a =
      if k = .powerCycle ∧ s.kind a = .ram then powerUpByte s.draws a.toNat else Memory.read s.mem a := by
  cases k
  · simp [State.resetMem]
  · rw [State.resetMem, Memory.read_ofFn]
    simp [Memory.read]

/-- The part of the state that no step changes: the parameters, and every byte that is not ram. -/
def State.SameOutsideRam (s t : State) : Prop :=
  t.params = s.params ∧ ∀ a, s.kind a ≠ .ram → Memory.read t.mem a = Memory.read s.mem a

theorem State.SameOutsideRam.refl (s : State) : s.SameOutsideRam s := ⟨rfl, fun _ _ => rfl⟩

theorem State.SameOutsideRam.trans {s t u : State} (hst : s.SameOutsideRam t) (htu : t.SameOutsideRam u) :
    s.SameOutsideRam u := by
  obtain ⟨hparams, hread⟩ := hst
  obtain ⟨hparams', hread'⟩ := htu
  refine ⟨hparams'.trans hparams, fun a ha => (hread' a ?_).trans (hread a ha)⟩
  rwa [State.kind_eq_of_params hparams]

theorem State.sameOutsideRam_after (s : State) (i : Instr) : s.SameOutsideRam (s.after i) :=
  ⟨s.after_params i, fun _ => s.read_after_of_not_ram i⟩

theorem State.sameOutsideRam_resetMove (s : State) (k : ResetKind) : s.SameOutsideRam (s.resetMove k) :=
  ⟨rfl, fun a ha => (s.read_resetMem k a).trans (if_neg fun h => ha h.2)⟩

theorem State.sameOutsideRam_takeInterrupt (s : State) (n : BitVec 3) : s.SameOutsideRam (s.takeInterrupt n) := by
  refine ⟨s.takeInterrupt_params n, fun a ha => ?_⟩
  exact State.read_writeByte_writeByte_frame (((s.setInte false).setHalted false).setEiShadow false) _ _ (.inr ha)

theorem sameOutsideRam_of_step {s t : State} (hstep : step s = .next t) : s.SameOutsideRam t := by
  have henv : s.SameOutsideRam (s.setEnv s.env.tail) := State.SameOutsideRam.refl s
  rcases step_next_cases hstep with ⟨k, -, rfl⟩ | ⟨n, rfl⟩ | rfl | ⟨-, i, rfl⟩
  · exact henv.trans (State.sameOutsideRam_resetMove _ k)
  · exact henv.trans (State.sameOutsideRam_takeInterrupt _ n)
  · exact henv
  · have hfetch : s.SameOutsideRam s.fetched := by simp [State.SameOutsideRam, State.fetched]
    exact hfetch.trans (State.sameOutsideRam_after _ i)

/-- Settles O20, by induction on the number of steps. -/
theorem bytesOutsideRamNeverChange : Obligations.BytesOutsideRamNeverChange := by
  intro n
  induction n with
  | zero =>
    rintro s _ rfl
    exact State.SameOutsideRam.refl s
  | succ n ih =>
    rintro s t ⟨u, hstep, hrun⟩
    exact (sameOutsideRam_of_step hstep).trans (ih u t hrun)

/-! ### The output trace (R72) -/

/-- OUT appends its port with the byte in A, and no other instruction appends. -/
theorem State.after_outTrace_cases (s : State) (i : Instr) :
    (s.after i).outTrace = s.outTrace ∨ ∃ p, (s.after i).outTrace = s.outTrace ++ [(p, s.regs.a)] := by
  by_cases h : ∃ p, i = .outPort p
  · obtain ⟨p, rfl⟩ := h
    exact .inr ⟨p, rfl⟩
  · exact .inl (s.after_outTrace (not_exists.mp h))

/-- Settles O21, by what a step can be: only an instruction appends. -/
theorem outputsAreAppended : Obligations.OutputsAreAppended := by
  intro s t hstep
  rcases step_next_cases hstep with ⟨k, -, rfl⟩ | ⟨n, rfl⟩ | rfl | ⟨-, i, rfl⟩
  · exact .inl rfl
  · exact .inl (by simp)
  · exact .inl rfl
  · simpa [State.fetched] using s.fetched.after_outTrace_cases i

/-! ### The free values drawn (R308)

Where no free value is drawn, an operation on the state with another count of draws does what it does on the state itself, and keeps
that count. -/

/-- Nothing in the parameters lets an instruction draw a free value: memory is everywhere, and AC_LOGIC is not draw. -/
def State.DrawFree (s : State) : Prop := (∀ a, s.present a) ∧ s.params.acLogic ≠ .draw

theorem State.DrawFree.of_params {s t : State} (h : s.DrawFree) (hparams : t.params = s.params) : t.DrawFree := by
  obtain ⟨hpresent, hac⟩ := h
  refine ⟨fun a => ?_, hparams ▸ hac⟩
  rw [State.present, State.kind_eq_of_params hparams]
  exact hpresent a

theorem State.DrawFree.readByte_setDraws {s : State} (h : s.DrawFree) (k : Nat) (a : Word) :
    (s.setDraws k).readByte a = ((s.readByte a).1, (s.readByte a).2.setDraws k) := by
  have hk : (s.setDraws k).kind a ≠ .absent := h.1 a
  rw [State.readByte_present hk, State.readByte_present (h.1 a)]
  rfl

theorem State.DrawFree.readWord_setDraws {s : State} (h : s.DrawFree) (k : Nat) (a : Word) :
    (s.setDraws k).readWord a = ((s.readWord a).1, (s.readWord a).2.setDraws k) := by
  have h' : (s.readByte a).2.DrawFree := h.of_params (by simp)
  simp only [State.readWord, h.readByte_setDraws, h'.readByte_setDraws]

theorem State.DrawFree.readOperand_setDraws {s : State} (h : s.DrawFree) (k : Nat) (r : Reg8) :
    (s.setDraws k).readOperand r = ((s.readOperand r).1, (s.readOperand r).2.setDraws k) := by
  cases r
  case m => exact h.readByte_setDraws k _
  all_goals rfl

theorem State.writeByte_setDraws (s : State) (k : Nat) (a : Word) (v : Byte) :
    (s.setDraws k).writeByte a v = (s.writeByte a v).setDraws k := by
  rw [State.writeByte_eq, State.writeByte_eq]
  rfl

theorem State.writeOperand_setDraws (s : State) (k : Nat) (r : Reg8) (v : Byte) :
    (s.setDraws k).writeOperand r v = (s.writeOperand r v).setDraws k := by
  cases r
  case m => exact s.writeByte_setDraws k _ v
  all_goals rfl

theorem State.writeWord_setDraws (s : State) (k : Nat) (a v : Word) :
    (s.setDraws k).writeWord a v = (s.writeWord a v).setDraws k := by
  simp only [State.writeWord, State.writeByte_setDraws]

theorem State.pushBytes_setDraws (s : State) (k : Nat) (x y : Byte) :
    (s.setDraws k).pushBytes x y = (s.pushBytes x y).setDraws k := by
  simp only [State.pushBytes, State.setDraws_sp, State.writeByte_setDraws]
  rfl

theorem State.callTo_setDraws (s : State) (k : Nat) (ret target : Word) :
    (s.setDraws k).callTo ret target = (s.callTo ret target).setDraws k :=
  congrArg (State.setPc · target) (s.pushBytes_setDraws k _ _)

theorem State.DrawFree.returnTo_setDraws {s : State} (h : s.DrawFree) (k : Nat) :
    (s.setDraws k).returnTo = s.returnTo.setDraws k := by
  simp only [State.returnTo, State.pop16, State.setDraws_sp, h.readWord_setDraws]
  rfl

theorem State.jumpIf_setDraws (s : State) (k : Nat) (cond : Cond) (a : Word) :
    (s.setDraws k).jumpIf cond a = (s.jumpIf cond a).setDraws k := by
  rw [State.jumpIf_eq, State.jumpIf_eq]
  rfl

theorem State.callIf_setDraws (s : State) (k : Nat) (cond : Cond) (a : Word) :
    (s.setDraws k).callIf cond a = (s.callIf cond a).setDraws k := by
  simp only [State.callIf, State.setDraws_flags, State.setDraws_pc, State.callTo_setDraws]
  split <;> rfl

theorem State.DrawFree.returnIf_setDraws {s : State} (h : s.DrawFree) (k : Nat) (cond : Cond) :
    (s.setDraws k).returnIf cond = (s.returnIf cond).setDraws k := by
  simp only [State.returnIf, State.setDraws_flags, h.returnTo_setDraws]
  split <;> rfl

theorem State.writePair_setDraws (s : State) (k : Nat) (p : PairA) (v : Word) :
    (s.setDraws k).writePair p v = (s.writePair p v).setDraws k := by
  cases p <;> rfl

theorem State.readPair_setDraws (s : State) (k : Nat) (p : PairA) : (s.setDraws k).readPair p = s.readPair p := by
  cases p <;> rfl

theorem State.pushOperand_setDraws (s : State) (k : Nat) (p : PairS) : (s.setDraws k).pushOperand p = s.pushOperand p := by
  cases p <;> rfl

theorem State.popOperand_setDraws (s : State) (k : Nat) (p : PairS) (x y : Byte) :
    (s.setDraws k).popOperand p x y = (s.popOperand p x y).setDraws k := by
  cases p
  case psw =>
    simp only [State.popOperand, State.setDraws_params]
    split <;> rfl
  all_goals rfl

theorem State.countAcDraw_of_ne_draw {s : State} (h : s.params.acLogic ≠ .draw) : s.countAcDraw = s := by
  unfold State.countAcDraw
  split
  next hdraw => exact absurd hdraw h
  next => rfl

/-- R188: AC is drawn with AC_LOGIC = draw only. -/
theorem acAfter_drawn {p : AcLogic} (h : p ≠ .draw) (before silicon drawn drawn' : Bool) :
    acAfter p before silicon drawn = acAfter p before silicon drawn' := by
  cases p
  case draw => exact absurd rfl h
  all_goals rfl

theorem State.DrawFree.logicOnA_setDraws {s : State} (h : s.DrawFree) (k : Nat) (l : LogicKind) (b : Byte) :
    (s.setDraws k).logicOnA l b = (s.logicOnA l b).setDraws k := by
  have h' : (s.setDraws k).params.acLogic ≠ .draw := h.2
  have hdrawn := acAfter_drawn h.2 s.flags.ac (logicAc8080 l s.regs.a b) (s.setDraws k).drawnAc s.drawnAc
  simp only [State.logicOnA, State.countAcDraw_of_ne_draw h', State.countAcDraw_of_ne_draw h.2, logic8, State.setDraws_params,
    State.setDraws_flags, State.setDraws_regs, hdrawn]
  rfl

theorem State.DrawFree.compareA_setDraws {s : State} (h : s.DrawFree) (k : Nat) (b : Byte) :
    (s.setDraws k).compareA b = (s.compareA b).setDraws k := by
  have h' : (s.setDraws k).params.acLogic ≠ .draw := h.2
  have hdrawn := acAfter_drawn h.2 s.flags.ac (sub8 s.regs.a b false s.flags).2.ac (s.setDraws k).drawnAc s.drawnAc
  simp only [State.compareA, State.countAcDraw_of_ne_draw h', State.countAcDraw_of_ne_draw h.2, compareFlags,
    State.setDraws_params, State.setDraws_flags, State.setDraws_regs, hdrawn]
  rfl

/-- R308: no instruction depends on the count of draws. Those that neither read memory nor write it, nor look at the parameters, have
the two sides equal by evaluation. -/
theorem State.DrawFree.after_setDraws {s : State} (h : s.DrawFree) (k : Nat) (i : Instr) :
    (s.setDraws k).after i = (s.after i).setDraws k := by
  have hoperand : ∀ r, (s.readOperand r).2.DrawFree := fun r => h.of_params (by simp)
  cases i
  case mov | inr | dcr =>
    simp only [State.after, State.modifyOperand, h.readOperand_setDraws, State.writeOperand_setDraws]
    rfl
  case add r | adc r | sub r | sbb r =>
    simp only [State.after, h.readOperand_setDraws]
    rfl
  case ana r | xra r | ora r =>
    simp only [State.after, h.readOperand_setDraws, (hoperand r).logicOnA_setDraws]
    rfl
  case cmp r =>
    simp only [State.after, h.readOperand_setDraws, (hoperand r).compareA_setDraws]
    rfl
  case ani | xri | ori =>
    simp only [State.after, h.logicOnA_setDraws]
    rfl
  case cpi =>
    simp only [State.after, h.compareA_setDraws]
    rfl
  case mvi =>
    simp only [State.after, State.writeOperand_setDraws]
    rfl
  case stax | sta =>
    simp only [State.after, State.setDraws_regs, State.writeByte_setDraws]
    rfl
  case ldax | lda =>
    simp only [State.after, State.setDraws_regs, h.readByte_setDraws]
    rfl
  case shld =>
    simp only [State.after, State.setDraws_regs, State.writeWord_setDraws]
    rfl
  case lhld =>
    simp only [State.after, State.setDraws_regs, h.readWord_setDraws]
    rfl
  case xthl =>
    simp only [State.after, State.setDraws_sp, State.setDraws_regs, h.readWord_setDraws, State.writeWord_setDraws]
    rfl
  case push =>
    simp only [State.after, State.pushOperand_setDraws, State.pushBytes_setDraws]
    rfl
  case pop =>
    simp only [State.after, State.pop16, State.setDraws_sp, h.readWord_setDraws]
    exact congrArg (State.advance · 1) (State.popOperand_setDraws ((s.readWord s.sp).2.setSp (s.sp + 2)) k _ _ _)
  case dad =>
    simp only [State.after, State.readPair_setDraws]
    rfl
  case inx | dcx | lxi =>
    simp only [State.after, State.readPair_setDraws, State.writePair_setDraws]
    rfl
  case rst | call => exact s.callTo_setDraws k _ _
  case ret => exact h.returnTo_setDraws k
  case jc | jnc | jz | jnz | jm | jp | jpe | jpo => exact s.jumpIf_setDraws k _ _
  case cc | cnc | cz | cnz | cm | cp | cpe | cpo => exact s.callIf_setDraws k _ _
  case rc | rnc | rz | rnz | rm | rp | rpe | rpo => exact h.returnIf_setDraws k _
  all_goals rfl

theorem State.DrawFree.readBytes_setDraws {s : State} (h : s.DrawFree) (k : Nat) (a : Word) (n : Nat) :
    readBytes (s.setDraws k) a n = ((readBytes s a n).1, (readBytes s a n).2.setDraws k) := by
  have h' : (s.setDraws k).DrawFree := h.of_params rfl
  rw [readBytes_present fun _ _ => h.1 _, readBytes_present fun _ _ => h'.1 _]
  rfl

theorem State.DrawFree.fetch_setDraws {s : State} (h : s.DrawFree) (k : Nat) :
    (s.setDraws k).fetch = (s.fetch.1, s.fetch.2.setDraws k) := by
  rw [State.fetch_eq_readBytes, State.fetch_eq_readBytes]
  simp only [h.readByte_setDraws, h.readBytes_setDraws, State.setDraws_params, State.setDraws_pc]

theorem State.takeInterrupt_setDraws (s : State) (k : Nat) (n : BitVec 3) :
    (s.setDraws k).takeInterrupt n = (s.takeInterrupt n).setDraws k :=
  State.callTo_setDraws (((s.setInte false).setHalted false).setEiShadow false) k _ _

/-- R273: a boundary without a reset that disturbs the processor holds an offer, and it is accepted. -/
theorem accepted_of_not_undisturbed {s : State} (hreset : s.boundary.reset = none) (h : ¬ Undisturbed s) :
    ∃ b, s.boundary.offer = some b ∧ s.accepts = true := by
  have hnot := fun hoffer => h ⟨hreset, hoffer⟩
  rw [← s.accepts_eq_false_iff] at hnot
  cases hb : s.boundary.offer with
  | none => exact absurd (.inl hb) hnot
  | some b => exact ⟨b, rfl, by simpa using fun ha => hnot (.inr ha)⟩

/-- R308: no step but a reset depends on the count of draws. -/
theorem State.DrawFree.step_setDraws {s t : State} (h : s.DrawFree) (k : Nat) (hreset : s.boundary.reset = none)
    (hstep : step s = .next t) : step (s.setDraws k) = .next (t.setDraws k) := by
  have hreset' : (s.setDraws k).boundary.reset = none := hreset
  by_cases hund : Undisturbed s
  · have hund' : Undisturbed (s.setDraws k) := hund
    cases hhalted : s.halted with
    | true =>
      rw [step_of_halted hhalted hund] at hstep
      obtain rfl := Host.Outcome.next.inj hstep
      exact step_of_halted (s := s.setDraws k) hhalted hund'
    | false =>
      have hfetch := h.fetch_setDraws k
      cases hi : s.fetch.1 with
      | ok i =>
        rw [step_of_fetch_ok hhalted hund hi] at hstep
        obtain rfl := eq_after_of_exec hstep
        rw [step_of_fetch_ok (s := s.setDraws k) hhalted hund' (i := i) (by rw [hfetch, hi]), exec_eq_after, hfetch]
        have hfree : ({ s.fetch.2 with env := s.env.tail, eiShadow := false } : State).DrawFree := h.of_params (by simp)
        exact congrArg Host.Outcome.next (hfree.after_setDraws k i)
      | error why =>
        rw [step_of_fetch_error hhalted hund hi] at hstep
        exact nomatch hstep
  · obtain ⟨b, hoffer, haccepts⟩ := accepted_of_not_undisturbed hreset hund
    rw [step_of_accepted hreset hoffer haccepts, State.acceptOffer] at hstep
    rw [step_of_accepted (s := s.setDraws k) hreset' hoffer haccepts, State.acceptOffer]
    split at hstep
    next hrst =>
      obtain rfl := Host.Outcome.next.inj hstep
      rw [if_pos hrst]
      exact congrArg Host.Outcome.next (State.takeInterrupt_setDraws (s.setEnv s.env.tail) k _)
    next => exact nomatch hstep

/-- R308: no step but a reset draws. -/
theorem State.DrawFree.draws_of_step {s t : State} (h : s.DrawFree) (hreset : s.boundary.reset = none)
    (hstep : step s = .next t) : t.draws = s.draws := by
  have hsame : step s = .next (t.setDraws s.draws) := h.step_setDraws s.draws hreset hstep
  have heq : t = t.setDraws s.draws := Host.Outcome.next.inj (hstep.symm.trans hsame)
  rw [heq, State.setDraws_draws]

/-- Every step takes the boundary off the environment's list. -/
theorem env_of_step {s t : State} (hstep : step s = .next t) : t.env = s.env.tail := by
  rcases step_next_cases hstep with ⟨k, -, rfl⟩ | ⟨n, rfl⟩ | rfl | ⟨-, i, rfl⟩
  · rfl
  · rw [State.takeInterrupt_env, State.setEnv_env]
  · rfl
  · simp [State.after_env, State.fetched]

/-- R309: without a reset to come there is none at this boundary. -/
theorem State.noReset.boundary_reset {s : State} (h : s.noReset) : s.boundary.reset = none := by
  unfold State.boundary
  cases henv : s.env with
  | nil => rfl
  | cons b rest => exact h b (by simp [henv])

theorem State.noReset.of_tail {s t : State} (h : s.noReset) (henv : t.env = s.env.tail) : t.noReset :=
  fun b hb => h b (List.mem_of_mem_tail (henv ▸ hb))

/-- Settles O22, by induction on the number of steps: each step keeps the three premises. -/
theorem runsDoNotDependOnDraws : Obligations.RunsDoNotDependOnDraws := by
  intro n
  induction n with
  | zero =>
    rintro s _ k - - - rfl
    exact ⟨rfl, rfl⟩
  | succ n ih =>
    rintro s t k hpresent hac hnoReset ⟨u, hstep, hrun⟩
    have hfree : s.DrawFree := ⟨hpresent, hac⟩
    have hreset := hnoReset.boundary_reset
    obtain ⟨hpresent', hac'⟩ := hfree.of_params (sameOutsideRam_of_step hstep).1
    obtain ⟨hdraws, hrun'⟩ := ih u t k hpresent' hac' (hnoReset.of_tail (env_of_step hstep)) hrun
    exact ⟨hdraws.trans (hfree.draws_of_step hreset hstep), u.setDraws k, hfree.step_setDraws k hreset hstep, hrun'⟩

end Sys2Proof.Machine

/-! ## Memory and operands

The reads and writes of one byte and of two, the uniqueness of the canonical form, and the eight operand forms. -/

namespace Sys2Proof.Machine

open Claims Config

/-! ### One byte, two bytes (R62 to R65, R69) -/

/-- R63, R69: a write to ram changes memory at its address. -/
theorem State.writeByte_ram {s : State} {a : Word} (h : s.kind a = .ram) (v : Byte) :
    s.writeByte a v = s.setMem (Memory.write s.mem a v) := by
  unfold State.writeByte
  rw [h]

/-- R69: a write to rom, or where there is no memory, does nothing. -/
theorem State.writeByte_not_ram {s : State} {a : Word} (h : s.kind a ≠ .ram) (v : Byte) : s.writeByte a v = s := by
  rw [State.writeByte_eq, if_neg h]

theorem present_of_ram {s : State} {a : Word} (h : s.kind a = .ram) : s.kind a ≠ .absent := by
  rw [h]
  nofun

/-- Settles O23, by the laws of one read and of one write. -/
theorem readsAndWritesOfOneByte : Obligations.ReadsAndWritesOfOneByte := by
  intro s a b v
  refine ⟨State.readByte_present, fun habsent => ?_, fun hram => ⟨?_, fun hne => ?_, ?_⟩, fun hk => State.writeByte_not_ram hk v⟩
  · rcases s.readByte_cases a with ⟨hpresent, -⟩ | ⟨-, hread⟩
    · exact absurd habsent hpresent
    · rw [hread]
      rfl
  · have hpresent : (s.writeByte a v).kind a ≠ .absent := by simp [hram]
    rw [State.readByte_present hpresent, State.read_writeByte, if_pos ⟨rfl, hram⟩]
  · exact s.read_writeByte_frame v (.inl hne)
  · rw [State.writeByte_ram hram]
    rfl

/-- Settles O25: the two addresses differ, also where the second wraps to 0 (D9). -/
theorem sixteenBitTransfers : Obligations.SixteenBitTransfers := by
  intro s a v hlow hhigh
  have hne : a ≠ a + 1 := by bv_omega
  have hreadLow : Memory.read (s.writeWord a v).mem a = loByte v := by
    rw [State.read_writeWord, if_neg fun h => hne h.1, if_pos ⟨rfl, hlow⟩]
  have hreadHigh : Memory.read (s.writeWord a v).mem (a + 1) = hiByte v := by
    rw [State.read_writeWord, if_pos ⟨rfl, hhigh⟩]
  have hkind : ∀ b, (s.writeWord a v).kind b = s.kind b := State.kind_eq_of_params (s.writeWord_params a v)
  refine ⟨?_, by rw [hreadLow, loByte_toNat], by rw [hreadHigh, hiByte_toNat], fun b hb hb' => ?_⟩
  · rw [State.readWord_present, hreadLow, hreadHigh, wordOf_hiByte_loByte]
    · rw [hkind]
      exact present_of_ram hlow
    · rw [hkind]
      exact present_of_ram hhigh
  · rw [State.read_writeWord, if_neg fun h => hb' h.1, if_neg fun h => hb h.1]

/-! ### The canonical form is unique -/

/-- What memory lists at an address is what a lookup there answers. -/
theorem Memory.lookup_of_mem {m : Memory} (h : m.Pairwise (fun x y => x.1 < y.1)) {c : Host.Cell} (hc : c ∈ m) :
    Memory.lookup c.1 m = c.2 := by
  induction m with
  | nil => exact nomatch hc
  | cons d m ih =>
    obtain ⟨hd, hm⟩ := List.pairwise_cons.mp h
    rcases List.mem_cons.mp hc with rfl | hc
    · simp [Memory.lookup]
    · simp [Memory.lookup, (hd c hc).ne, ih hm hc]

/-- An address that does not hold the unlisted byte is listed. -/
theorem Memory.mem_of_lookup {m : Memory} {k : Nat} (h : Memory.lookup k m ≠ Memory.unlisted) :
    (k, Memory.lookup k m) ∈ m := by
  induction m with
  | nil => exact absurd rfl h
  | cons d m ih =>
    by_cases hk : d.1 = k
    · subst hk
      simp [Memory.lookup]
    · simp only [Memory.lookup, hk, if_false] at h ⊢
      exact List.mem_cons_of_mem _ (ih h)

/-- A canonical memory lists exactly the addresses below 2^16 that do not hold the unlisted byte, each with what it holds. -/
theorem Memory.mem_iff_of_wf {m : Memory} (h : Memory.wf m) (c : Host.Cell) :
    c ∈ m ↔ c.1 < 65536 ∧ c.2 ≠ Memory.unlisted ∧ Memory.lookup c.1 m = c.2 := by
  obtain ⟨hrising, hbounds⟩ := h
  constructor
  · intro hc
    exact ⟨(hbounds c hc).1, (hbounds c hc).2, Memory.lookup_of_mem hrising hc⟩
  · rintro ⟨-, hne, hlookup⟩
    have hmem := Memory.mem_of_lookup (m := m) (k := c.1) (by rwa [hlookup])
    rwa [hlookup] at hmem

/-- Settles O24: two lists that rise strictly and have the same members are equal. -/
theorem canonicalMemoryIsUnique : Obligations.CanonicalMemoryIsUnique := by
  intro m m' hm hm' hread
  have hlookup : ∀ k < 65536, Memory.lookup k m = Memory.lookup k m' := by
    intro k hk
    have hk' : (BitVec.ofNat 16 k).toNat = k := by simp [hk]
    have := hread (BitVec.ofNat 16 k)
    rwa [Memory.read, Memory.read, hk'] at this
  have hmem : ∀ c, c ∈ m ↔ c ∈ m' := by
    intro c
    rw [Memory.mem_iff_of_wf hm, Memory.mem_iff_of_wf hm']
    exact and_congr_right fun hc => by rw [hlookup c.1 hc]
  have hnodup : ∀ {l : Memory}, Memory.wf l → l.Nodup := fun hl => hl.1.imp fun hlt heq => (heq ▸ hlt).ne rfl
  have hperm : m.Perm m' := (List.perm_ext_iff_of_nodup (hnodup hm) (hnodup hm')).mpr hmem
  exact hperm.eq_of_pairwise (fun x y _ _ hxy hyx => absurd (hxy.trans hyx) (Nat.lt_irrefl _)) hm.1 hm'.1

/-! ### Operands (R21) -/

/-- R21: a register operand reads as the register. -/
theorem State.readOperand_of_register {s : State} {r : Reg8} {w : Byte} (h : register s.regs r = some w) :
    s.readOperand r = (w, s) := by
  cases r
  case m => exact nomatch h
  all_goals
    obtain rfl := Option.some.inj h
    rfl

/-- R21: a register operand is written to that register. -/
theorem register_writeOperand_same (s : State) {r : Reg8} (v : Byte) (h : r ≠ .m) :
    register (s.writeOperand r v).regs r = some v := by
  cases r
  case m => exact absurd rfl h
  all_goals rfl

/-- R21: the write of a register operand changes registers alone. -/
theorem State.writeOperand_register (s : State) {r : Reg8} (v : Byte) (h : r ≠ .m) :
    s.writeOperand r v = { s with regs := (s.writeOperand r v).regs } := by
  cases r
  case m => exact absurd rfl h
  all_goals rfl

/-- Settles O26. M is the byte at HL by definition. -/
theorem operandForms : Obligations.OperandForms := by
  intro s r v
  refine ⟨fun w => State.readOperand_of_register, fun hr => ⟨register_writeOperand_same s v hr, ?_, s.writeOperand_register v hr⟩,
    rfl, rfl⟩
  exact fun q hq => register_writeOperand_other s v hq

end Sys2Proof.Machine

/-! ## Calls, returns, restarts and the command instructions -/

namespace Sys2Proof.Machine

open Claims Config

/-! ### Calls (R125, R241 to R249) -/

/-- R230: the statements' word for a taken call is the model's. -/
theorem called_eq_callTo (s : State) (ret target : Word) : called s ret target = s.callTo ret target := rfl

/-- R230, with the condition said as a statement `P` about the status bits. -/
theorem State.callIf_eq_of_iff {s : State} {k : Cond} {P : Prop} [Decidable P] (h : s.flags.holds k = true ↔ P) (addr : Word) :
    s.callIf k addr = if P then called s (s.pc + 3) addr else { s with pc := s.pc + 3 } := by
  unfold State.callIf
  rw [if_congr h rfl rfl]
  rfl

/-- R241: CALL is always taken. -/
theorem exec_call (s : State) (addr : Word) : exec (.call addr) s = .next (called s (s.pc + 3) addr) := rfl

/-- Settles O53: the nine encodings, and for each call the condition it takes. -/
theorem calls : Obligations.Calls :=
  ⟨coded3_call, coded3_cc, coded3_cnc, coded3_cz, coded3_cnz, coded3_cm, coded3_cp, coded3_cpe, coded3_cpo, fun s addr =>
    ⟨exec_call s addr,
      congrArg Host.Outcome.next (State.callIf_eq_of_iff s.flags.holds_c addr),
      congrArg Host.Outcome.next (State.callIf_eq_of_iff s.flags.holds_nc addr),
      congrArg Host.Outcome.next (State.callIf_eq_of_iff s.flags.holds_z addr),
      congrArg Host.Outcome.next (State.callIf_eq_of_iff s.flags.holds_nz addr),
      congrArg Host.Outcome.next (State.callIf_eq_of_iff s.flags.holds_m addr),
      congrArg Host.Outcome.next (State.callIf_eq_of_iff s.flags.holds_p addr),
      congrArg Host.Outcome.next (State.callIf_eq_of_iff s.flags.holds_pe addr),
      congrArg Host.Outcome.next (State.callIf_eq_of_iff s.flags.holds_po addr)⟩⟩

/-- R68: the restart addresses are the eight multiples of 8 from 0. -/
theorem rstTarget_toNat (n : BitVec 3) : (rstTarget n).toNat = 8 * n.toNat := by
  revert n
  decide

/-- Settles O31. -/
theorem restart : Obligations.Restart := fun n =>
  ⟨coded1_rst n, fun s => ⟨called s (s.pc + 1) (rstTarget n), rfl, rfl, rstTarget_toNat n⟩⟩

/-! ### Returns (R250 to R258) -/

/-- R230, with the condition said as a statement `P` about the status bits. -/
theorem State.returnIf_eq_of_iff {s : State} {k : Cond} {P : Prop} [Decidable P] (h : s.flags.holds k = true ↔ P) :
    s.returnIf k = if P then returned s else { s with pc := s.pc + 1 } := by
  unfold State.returnIf
  rw [if_congr h rfl rfl]
  rfl

/-- R250: RET is always taken. -/
theorem exec_ret (s : State) : exec .ret s = .next (returned s) := rfl

/-- Settles O54: the nine encodings, and for each return the condition it takes. -/
theorem returns : Obligations.Returns :=
  ⟨coded1_ret, coded1_rc, coded1_rnc, coded1_rz, coded1_rnz, coded1_rm, coded1_rp, coded1_rpe, coded1_rpo, fun s =>
    ⟨exec_ret s,
      congrArg Host.Outcome.next (State.returnIf_eq_of_iff s.flags.holds_c),
      congrArg Host.Outcome.next (State.returnIf_eq_of_iff s.flags.holds_nc),
      congrArg Host.Outcome.next (State.returnIf_eq_of_iff s.flags.holds_z),
      congrArg Host.Outcome.next (State.returnIf_eq_of_iff s.flags.holds_nz),
      congrArg Host.Outcome.next (State.returnIf_eq_of_iff s.flags.holds_m),
      congrArg Host.Outcome.next (State.returnIf_eq_of_iff s.flags.holds_p),
      congrArg Host.Outcome.next (State.returnIf_eq_of_iff s.flags.holds_pe),
      congrArg Host.Outcome.next (State.returnIf_eq_of_iff s.flags.holds_po)⟩⟩

/-! ### A call and the return from it (R259, R275) -/

/-- R241 to R249: a taken call, of any kind, pushes the address of the next instruction. -/
theorem exec_taken_call {i : Instr} {s : State} (hcall : isCall i = true) (hcond : condition s.flags i = true) :
    ∃ target, exec i s = .next (s.callTo (s.pc + BitVec.ofNat 16 i.length) target) := by
  cases i
  case call addr | rst _ => exact ⟨_, rfl⟩
  case cc addr | cnc addr | cz addr | cnz addr | cm addr | cp addr | cpe addr | cpo addr =>
    exact ⟨addr, congrArg Host.Outcome.next (if_pos hcond)⟩
  all_goals exact nomatch (show false = true from hcall)

/-- R250 to R258: a taken return, of any kind, pops PC. -/
theorem exec_taken_return {j : Instr} {u : State} (hreturn : isReturn j = true) (hcond : condition u.flags j = true) :
    exec j u = .next u.returnTo := by
  cases j
  case ret => rfl
  case rc | rnc | rz | rnz | rm | rp | rpe | rpo => exact congrArg Host.Outcome.next (if_pos hcond)
  all_goals exact nomatch (show false = true from hreturn)

/-- R250: a return where there is memory under SP. -/
theorem State.returnTo_present {u : State} (h : u.kind u.sp ≠ .absent) (h' : u.kind (u.sp + 1) ≠ .absent) :
    u.returnTo =
      { u with sp := u.sp + 2, pc := wordOf (Memory.read u.mem (u.sp + 1)) (Memory.read u.mem u.sp) } := by
  simp only [State.returnTo, State.pop16, State.readWord_present h h']
  rfl

theorem word_sub_two_add_one (w : Word) : w - 2 + 1 = w - 1 := by bv_omega

theorem word_sub_two_add_two (w : Word) : w - 2 + 2 = w := BitVec.sub_add_cancel w 2

/-- R259: from any state with the stack as a call left it, a return takes SP back and goes on at the address pushed. -/
theorem State.returnTo_after_call {s u : State} {ret target : Word} (hram : s.kind (s.sp - 1) = .ram)
    (hram' : s.kind (s.sp - 2) = .ram) (hparams : u.params = s.params) (hsp : u.sp = s.sp - 2)
    (hhigh : Memory.read u.mem (s.sp - 1) = Memory.read (s.callTo ret target).mem (s.sp - 1))
    (hlow : Memory.read u.mem (s.sp - 2) = Memory.read (s.callTo ret target).mem (s.sp - 2)) :
    u.returnTo = { u with sp := s.sp, pc := ret } := by
  have hne : s.sp - 1 ≠ s.sp - 2 := by bv_omega
  have hpresent : u.kind u.sp ≠ .absent := by
    rw [State.kind_eq_of_params hparams, hsp]
    exact present_of_ram hram'
  have hpresent' : u.kind (u.sp + 1) ≠ .absent := by
    rw [State.kind_eq_of_params hparams, hsp, word_sub_two_add_one]
    exact present_of_ram hram
  rw [State.read_callTo, if_neg fun h => hne h.1, if_pos ⟨rfl, hram⟩] at hhigh
  rw [State.read_callTo, if_pos ⟨rfl, hram'⟩] at hlow
  rw [State.returnTo_present hpresent hpresent', hsp, word_sub_two_add_one, word_sub_two_add_two, hhigh, hlow,
    wordOf_hiByte_loByte]

/-- Settles O55: what a taken call pushes is what a later return pops. -/
theorem callThenReturn : Obligations.CallThenReturn := by
  intro i j s u hcall hcond hram hram'
  obtain ⟨target, hexec⟩ := exec_taken_call hcall hcond
  refine ⟨_, hexec, fun hreturn hcond' hparams hsp hhigh hlow => ?_⟩
  rw [State.callTo_params] at hparams
  rw [State.callTo_sp] at hsp
  rw [exec_taken_return hreturn hcond', State.returnTo_after_call hram hram' hparams hsp hhigh hlow]

/-! ### IN, OUT, CMC, STC (R120, R121, R126, R127) -/

/-- R120: IN loads A with the byte that the environment supplies, and counts the read. -/
theorem exec_inPort (s : State) (p : Byte) :
    exec (.inPort p) s =
      .next { s with regs := { s.regs with a := ioRead p s.ioReads }, ioReads := s.ioReads + 1, pc := s.pc + 2 } := rfl

/-- R121: OUT appends its port and A to the output trace. -/
theorem exec_outPort (s : State) (p : Byte) :
    exec (.outPort p) s = .next { s with outTrace := s.outTrace ++ [(p, s.regs.a)], pc := s.pc + 2 } := rfl

/-- Settles O28. -/
theorem inputAndOutput : Obligations.InputAndOutput :=
  ⟨coded2_inPort, coded2_outPort, fun s p => ⟨exec_inPort s p, exec_outPort s p⟩⟩

theorem exec_cmc (s : State) :
    exec .cmc s = .next { s with flags := { s.flags with cy := !s.flags.cy }, pc := s.pc + 1 } := rfl

theorem exec_stc (s : State) :
    exec .stc s = .next { s with flags := { s.flags with cy := true }, pc := s.pc + 1 } := rfl

/-- R188: every logic operation resets CY. -/
theorem State.logicOnA_cy (s : State) (k : LogicKind) (b : Byte) : (s.logicOnA k b).flags.cy = false := rfl

/-- R189, R191: the and, and the or, of A with itself is A. -/
theorem State.logicOnA_self (s : State) {k : LogicKind} (h : k ≠ .xor) : (s.logicOnA k s.regs.a).regs.a = s.regs.a := by
  rw [State.logicOnA_regs]
  cases k
  case xor => exact absurd rfl h
  case and => exact BitVec.and_self
  case or => exact BitVec.or_self

/-- Settles O32: STC and CMC by their effects, ANA A and ORA A by the logic unit. -/
theorem carryInstructions : Obligations.CarryInstructions :=
  ⟨coded1_cmc, coded1_stc, fun s =>
    ⟨exec_cmc s, exec_stc s, ⟨_, _, exec_stc s, exec_cmc _, rfl⟩,
      ⟨_, exec_eq_after (.ana .a) s, s.logicOnA_self (k := .and) nofun, s.logicOnA_cy .and s.regs.a⟩,
      ⟨_, exec_eq_after (.ora .a) s, s.logicOnA_self (k := .or) nofun, s.logicOnA_cy .or s.regs.a⟩⟩⟩

/-! ## Interrupts, halt, reset (R272 to R279, R285, R300) -/

/-! ### The entry to an interrupt -/

theorem isRstByte_rst (n : BitVec 3) : isRstByte (0b11#2 ++ n ++ 0b111#3) = true := by
  revert n
  decide

theorem rstNumber_rst (n : BitVec 3) : rstNumber (0b11#2 ++ n ++ 0b111#3) = n := by
  revert n
  decide

/-- R272: the eight RST bytes are all that is recognised as one. -/
theorem eq_rst_of_isRstByte {b : Byte} (h : isRstByte b = true) : b = 0b11#2 ++ rstNumber b ++ 0b111#3 := by
  revert b
  decide

/-- R273: an offer that is accepted, of any byte. -/
theorem accepts_of_interrupted {s : State} {n : BitVec 3} (h : Interrupted s n) : s.accepts = true := by
  obtain ⟨-, -, hinte, hbar⟩ := h
  rcases hbar with hbar | hbar <;> simp [State.accepts, hinte, hbar]

/-- R274: an accepted RST is entered at this step. -/
theorem step_of_interrupted {s : State} {n : BitVec 3} (h : Interrupted s n) :
    step s = .next ((s.setEnv s.env.tail).takeInterrupt n) := by
  rw [step_of_accepted h.1 h.2.1 (accepts_of_interrupted h), State.acceptOffer, if_pos (isRstByte_rst n), rstNumber_rst]

/-- R274: the entry is a call of the restart address that pushes PC as it stands, with INTE, halted and ei_shadow reset. -/
theorem State.takeInterrupt_eq_called (s : State) (n : BitVec 3) :
    s.takeInterrupt n = { called s s.pc (rstTarget n) with inte := false, halted := false, eiShadow := false } := by
  simp only [State.takeInterrupt, State.callTo, State.push16, State.pushBytes, called, stacked, State.writeByte_eq]
  rfl

theorem called_setEnv (s : State) (e : List Boundary) (ret target : Word) :
    called (s.setEnv e) ret target = { called s ret target with env := e } := by
  simp only [called, stacked, State.writeByte_eq]
  rfl

/-- R273, R274: the step that takes an interrupt. -/
theorem step_of_interrupted_eq {s : State} {n : BitVec 3} (h : Interrupted s n) :
    step s = .next { called s s.pc (rstTarget n) with
      inte := false, halted := false, eiShadow := false, env := s.env.tail } := by
  rw [step_of_interrupted h, State.takeInterrupt_eq_called, called_setEnv]
  rfl

/-- Settles O56. -/
theorem interruptEntry : Obligations.InterruptEntry :=
  fun _ n h => ⟨_, step_of_interrupted_eq h, rstTarget_toNat n, rfl⟩

/-- R272: where an offer is not accepted, the boundary is as good as quiet. -/
theorem step_offer_not_taken {s : State} {b : Byte} {rest : List Boundary}
    (henv : s.env = { reset := none, offer := some b } :: rest)
    (hbar : s.inte = false ∨ (s.params.eiDelay = true ∧ s.eiShadow = true)) :
    step s = step { s with env := Boundary.quiet :: rest } := by
  have hboundary : s.boundary = { reset := none, offer := some b } := by rw [State.boundary, henv]
  have hund : Undisturbed s := ⟨by rw [hboundary], .inr hbar⟩
  have hquiet : Undisturbed { s with env := Boundary.quiet :: rest } := ⟨rfl, .inl rfl⟩
  rw [step_of_undisturbed hund, step_of_undisturbed hquiet, henv]
  rfl

/-- Settles O57: an accepted byte is refused unless it is one of the eight. -/
theorem offersNotTaken : Obligations.OffersNotTaken := by
  intro s b rest henv
  have hboundary : s.boundary = { reset := none, offer := some b } := by rw [State.boundary, henv]
  split
  next hbar => exact step_offer_not_taken henv hbar
  next hbar =>
    intro hnot
    have haccepts : s.accepts = true := by
      rw [← s.accepts_eq_false_iff] at hbar
      simpa using hbar
    have hrst : isRstByte b ≠ true := fun h => hnot _ (eq_rst_of_isRstByte h)
    rw [step_of_accepted (by rw [hboundary]) (by rw [hboundary]) haccepts, State.acceptOffer, if_neg hrst]

/-- Settles O58: the entry is a call that pushes PC, and the return from the handler returns from that call. -/
theorem interruptThenReturn : Obligations.InterruptThenReturn := by
  intro s n j h hram hram'
  refine ⟨_, step_of_interrupted h, by simp, by simp, fun a ha ha' => ?_, fun u hreturn hcond hparams hsp hhigh hlow => ?_⟩
  · rw [State.read_takeInterrupt, if_neg fun h => ha' h.1, if_neg fun h => ha h.1]
    rfl
  · have hmem : ((s.setEnv s.env.tail).takeInterrupt n).mem = (s.callTo s.pc (rstTarget n)).mem := by
      rw [State.takeInterrupt_eq_called, called_setEnv]
      rfl
    rw [hmem] at hhigh hlow
    rw [State.takeInterrupt_params] at hparams
    rw [State.takeInterrupt_sp] at hsp
    rw [exec_taken_return hreturn hcond, State.returnTo_after_call hram hram' hparams hsp hhigh hlow]

/-! ### EI, DI, HLT -/

theorem exec_ei (s : State) :
    exec .ei s = .next { s with inte := true, eiShadow := s.params.eiDelay, pc := s.pc + 1 } := rfl

theorem exec_di (s : State) : exec .di s = .next { s with inte := false, pc := s.pc + 1 } := rfl

theorem exec_hlt (s : State) : exec .hlt s = .next { s with pc := s.pc + 1, halted := true } := rfl

/-- R68: the restart address as the statements write it. -/
theorem rstTarget_eq (n : BitVec 3) : rstTarget n = 8 * n.setWidth 16 := by
  revert n
  decide

/-- Settles O29: the offer right after EI meets the entry's premises with EI_DELAY = 0, and the bar with EI_DELAY = 1. -/
theorem enableInterrupts : Obligations.EnableInterrupts := by
  refine ⟨coded1_ei, ?_⟩
  intro s n rest t offered
  refine ⟨exec_ei s, fun hdelay => ?_, fun hdelay => ?_⟩
  · have hinterrupted : Interrupted offered n := ⟨rfl, rfl, rfl, .inl hdelay⟩
    have hshadow : (called (offered.setEnv rest) offered.pc (rstTarget n)).eiShadow = false := by
      rw [called_eq_callTo, State.callTo_eiShadow]
      exact hdelay
    rw [step_of_interrupted hinterrupted, State.takeInterrupt_eq_called, ← rstTarget_eq]
    congr 1
    rw [← hshadow]
    rfl
  · exact step_offer_not_taken rfl (.inr ⟨hdelay, hdelay⟩)

/-- Settles O30. -/
theorem disableAndHalt : Obligations.DisableAndHalt := by
  refine ⟨coded1_di, coded1_hlt, fun s e => ⟨exec_di s, ?_, exec_hlt s, fun hund => step_of_halted rfl hund⟩⟩
  exact (State.accepts_eq_false_iff _).mpr (.inl rfl)

/-- R307: with INTE 0 and no reset to come, the halted processor waits through any number of boundaries. -/
theorem State.final.runsTo {s : State} (hfinal : s.final) (hnoReset : s.noReset) (n : Nat) :
    s.runsTo n { s with env := s.env.drop n } := by
  induction n generalizing s with
  | zero => rfl
  | succ n ih =>
    obtain ⟨hhalted, hinte⟩ := hfinal
    have hund : Undisturbed s := ⟨hnoReset.boundary_reset, .inr (.inl hinte)⟩
    have hrun := ih (s := s.setEnv s.env.tail) ⟨hhalted, hinte⟩ (hnoReset.of_tail rfl)
    rw [State.setEnv_env, List.drop_tail] at hrun
    exact ⟨_, step_of_halted hhalted hund, hrun⟩

/-- Settles O59. -/
theorem haltedProcessorWaits : Obligations.HaltedProcessorWaits :=
  fun _ => ⟨step_of_halted, State.final.runsTo⟩

/-- Settles O60, by the laws of the reset move. -/
theorem resetMove : Obligations.ResetMove := by
  intro s k h
  refine ⟨_, step_of_reset h, rfl, rfl, rfl, rfl, ?_, fun a => ?_, rfl, rfl, rfl, rfl⟩
  · rintro rfl
    rfl
  · exact (s.setEnv s.env.tail).read_resetMem k a

end Sys2Proof.Machine

/-! ## Arithmetic

The adders, the logic unit and the decimal adjust in the arithmetic of numbers, and the instructions that use them. -/

namespace Sys2Proof.Machine

open Claims Config

/-! ### Status bits (R28 to R30) -/

/-- The highest bit of a word says that its number is at least half the range. -/
theorem getLsbD_last_iff {n : Nat} (t : BitVec (n + 1)) : t.getLsbD n = true ↔ 2 ^ n ≤ t.toNat := by
  rw [show t.getLsbD n = t.msb from (BitVec.msb_eq_getLsbD_last t).symm, BitVec.msb_eq_decide, decide_eq_true_iff,
    Nat.add_sub_cancel]

/-- The carry out of an 8-bit addition, made in nine bits. -/
theorem getLsbD_eight_iff (t : BitVec 9) : t.getLsbD 8 = true ↔ 256 ≤ t.toNat := getLsbD_last_iff t

/-- The two ways to count the 1 bits of a byte. -/
theorem onesCount_eq_card (v : Byte) :
    onesCount v = (Finset.univ.filter (fun i : Fin 8 => v.getLsbD i = true)).card := by
  rw [Finset.card_filter, Fin.sum_univ_eight]
  simp only [onesCount, List.range, List.range.loop, List.countP_cons, List.countP_nil]
  simp
  ring

/-- `szp` makes S, Z and P describe its byte (R10). -/
theorem describes_szp (f : Flags) (v : Byte) : Describes (f.szp v) v := by
  refine ⟨getLsbD_last_iff v, ?_, ?_⟩
  · rw [Flags.szp_z, beq_iff_eq, ← BitVec.toNat_inj]
    rfl
  · rw [Flags.szp_p, evenParity, beq_iff_eq, onesCount_eq_card, Nat.even_iff]

/-! ### The 8-bit adder (R183) -/

theorem bitNat_eq_toNat (c : Bool) : bitNat c = c.toNat := by cases c <;> rfl

theorem add8_fst_toNat (a b : Byte) (c : Bool) (f : Flags) :
    (add8 a b c f).1.toNat = (a.toNat + b.toNat + c.toNat) % 256 := by
  have := a.isLt
  have := b.isLt
  have := c.toNat_le
  simp [add8, bitNat_eq_toNat]

theorem add8_cy (a b : Byte) (c : Bool) (f : Flags) :
    (add8 a b c f).2.cy = true ↔ 256 ≤ a.toNat + b.toNat + c.toNat := by
  have ha := a.isLt
  have hb := b.isLt
  have hc := c.toNat_le
  refine (getLsbD_eight_iff _).trans ?_
  simp [bitNat_eq_toNat]
  omega

theorem add8_ac (a b : Byte) (c : Bool) (f : Flags) :
    (add8 a b c f).2.ac = true ↔ 16 ≤ a.toNat % 16 + b.toNat % 16 + c.toNat := by
  simp [add8, bitNat_eq_toNat, lowNibble]
  omega

theorem sub8_fst_toNat (a b : Byte) (c : Bool) (f : Flags) :
    ((sub8 a b c f).1.toNat : Int) = ((a.toNat : Int) - b.toNat - c.toNat) % 256 := by
  have := a.isLt
  have := b.isLt
  have := c.toNat_le
  simp [sub8, bitNat_eq_toNat]
  omega

theorem sub8_cy (a b : Byte) (c : Bool) (f : Flags) :
    (sub8 a b c f).2.cy = true ↔ a.toNat < b.toNat + c.toNat := by
  have ha := a.isLt
  have hb := b.isLt
  have hc := c.toNat_le
  have hcarry : (sub8 a b c f).2.cy = true ↔
      ¬ 256 ≤ (a.setWidth 9 + (~~~b).setWidth 9 + BitVec.ofNat 9 (1 - bitNat c)).toNat := by
    rw [← getLsbD_eight_iff, Bool.not_eq_true, ← Bool.not_eq_true']
    rfl
  rw [hcarry]
  simp [bitNat_eq_toNat]
  omega

theorem sub8_ac (a b : Byte) (c : Bool) (f : Flags) :
    (sub8 a b c f).2.ac = true ↔ b.toNat % 16 + c.toNat ≤ a.toNat % 16 := by
  have hc := c.toNat_le
  have hb := b.isLt
  simp [sub8, bitNat_eq_toNat, lowNibble]
  omega

theorem describes_add8 (a b : Byte) (c : Bool) (f : Flags) : Describes (add8 a b c f).2 (add8 a b c f).1 := describes_szp _ _

theorem describes_sub8 (a b : Byte) (c : Bool) (f : Flags) : Describes (sub8 a b c f).2 (sub8 a b c f).1 := describes_szp _ _

/-- R192: Z says that the difference is 0, so that the bytes are equal. -/
theorem sub8_z (a b : Byte) (f : Flags) : (sub8 a b false f).2.z = true ↔ a = b := by
  have ha := a.isLt
  have hb := b.isLt
  have hz : (sub8 a b false f).2.z = true ↔ (sub8 a b false f).1.toNat = 0 := (describes_sub8 a b false f).2.1
  have hdiff := sub8_fst_toNat a b false f
  rw [hz, ← BitVec.toNat_inj]
  simp only [Bool.toNat_false] at hdiff
  omega

/-! ### INR and DCR (R140, R141) -/

/-- R140, R141: the operand is read, and written back with its status bits. -/
theorem stepped_modifyOperand (s : State) (r : Reg8) (f : Byte → Flags → Byte × Flags)
    (hcy : ∀ v g, (f v g).2.cy = g.cy) (hszp : ∀ v g, Describes (f v g).2 (f v g).1) :
    Stepped s r (f (s.readOperand r).1 s.flags).1 (f (s.readOperand r).1 s.flags).2 ((s.modifyOperand r f).advance 1) :=
  ⟨State.advance_of_pc_eq (s.modifyOperand_pc r f) 1, hcy _ _, hszp _ _⟩

theorem inc8_ac (v : Byte) (f : Flags) : (inc8 v f).2.ac = true ↔ v.toNat % 16 = 15 := by
  simp [inc8, lowNibble]
  omega

theorem dec8_ac (v : Byte) (f : Flags) : (dec8 v f).2.ac = true ↔ v.toNat % 16 ≠ 0 := by
  simp [dec8, lowNibble]
  omega

/-- Settles O34. -/
theorem incrementAndDecrement : Obligations.IncrementAndDecrement := by
  intro r s v
  refine ⟨coded1_inr r, coded1_dcr r, ?_, ?_⟩
  · exact ⟨_, _, _, exec_eq_after (.inr r) s, stepped_modifyOperand s r inc8 inc8_cy fun _ _ => describes_szp _ _,
      BitVec.toNat_add v 1, inc8_ac v s.flags⟩
  · exact ⟨_, _, _, exec_eq_after (.dcr r) s, stepped_modifyOperand s r dec8 dec8_cy fun _ _ => describes_szp _ _,
      BitVec.toNat_add v 0xFF, dec8_ac v s.flags⟩

/-! ### ADD, ADC, SUB, SBB, CMP and their immediate forms -/

/-- R183: an addition to A, once the operand byte `x.1` is read. -/
theorem sum_addToA {s : State} {x : Byte × State} (hregs : x.2.regs = s.regs) (hpc : x.2.pc = s.pc) (c : Bool) (n : Nat) :
    Sum s x c n ((x.2.addToA x.1 c).advance n) := by
  refine ⟨(add8 s.regs.a x.1 c x.2.flags).1, (add8 s.regs.a x.1 c x.2.flags).2, ?_, add8_fst_toNat _ _ _ _, add8_cy _ _ _ _,
    add8_ac _ _ _ _, describes_add8 _ _ _ _⟩
  rw [← hregs, ← hpc]
  rfl

/-- Settles O47: the operand's read leaves the registers and PC, and for the immediate forms there is no read. -/
theorem additions : Obligations.Additions := by
  refine ⟨coded2_adi, coded2_aci, fun s r d8 => ⟨coded1_add r, coded1_adc r, ?_, ?_, ?_, ?_⟩⟩
  · exact ⟨_, exec_eq_after (.add r) s, sum_addToA (s.readOperand_regs r) (s.readOperand_pc r) false 1⟩
  · exact ⟨_, exec_eq_after (.adc r) s, sum_addToA (s.readOperand_regs r) (s.readOperand_pc r) s.flags.cy 1⟩
  · exact ⟨_, exec_eq_after (.adi d8) s, sum_addToA (x := (d8, s)) rfl rfl false 2⟩
  · exact ⟨_, exec_eq_after (.aci d8) s, sum_addToA (x := (d8, s)) rfl rfl s.flags.cy 2⟩

/-- R183: a subtraction from A, once the operand byte `x.1` is read. -/
theorem difference_subFromA {s : State} {x : Byte × State} (hregs : x.2.regs = s.regs) (hpc : x.2.pc = s.pc) (c : Bool)
    (n : Nat) : Difference s x c n ((x.2.subFromA x.1 c).advance n) := by
  refine ⟨(sub8 s.regs.a x.1 c x.2.flags).1, (sub8 s.regs.a x.1 c x.2.flags).2, ?_, sub8_fst_toNat _ _ _ _, sub8_cy _ _ _ _,
    sub8_ac _ _ _ _, describes_sub8 _ _ _ _⟩
  rw [← hregs, ← hpc]
  rfl

/-- Settles O48, as O47. -/
theorem subtractions : Obligations.Subtractions := by
  refine ⟨coded2_sui, coded2_sbi, fun s r d8 => ⟨coded1_sub r, coded1_sbb r, ?_, ?_, ?_, ?_⟩⟩
  · exact ⟨_, exec_eq_after (.sub r) s, difference_subFromA (s.readOperand_regs r) (s.readOperand_pc r) false 1⟩
  · exact ⟨_, exec_eq_after (.sbb r) s, difference_subFromA (s.readOperand_regs r) (s.readOperand_pc r) s.flags.cy 1⟩
  · exact ⟨_, exec_eq_after (.sui d8) s, difference_subFromA (x := (d8, s)) rfl rfl false 2⟩
  · exact ⟨_, exec_eq_after (.sbi d8) s, difference_subFromA (x := (d8, s)) rfl rfl s.flags.cy 2⟩

/-- R188: the count of a draw of AC changes the count alone. -/
theorem State.countAcDraw_eq (s : State) : s.countAcDraw = { s with draws := s.countAcDraw.draws } := by
  unfold State.countAcDraw
  split <;> rfl

/-- R188, R192: AC and the count of draws follow AC_LOGIC. -/
theorem acRule_acAfter (u : State) (silicon : Bool) :
    AcRule u silicon (acAfter u.params.acLogic u.flags.ac silicon u.drawnAc) u.countAcDraw.draws := by
  unfold AcRule State.countAcDraw
  cases u.params.acLogic <;> exact ⟨rfl, rfl⟩

/-- R192: a comparison writes the status bits, and the count of draws with AC_LOGIC = draw. -/
theorem State.compareA_eq (s : State) (b : Byte) :
    s.compareA b =
      { s with
        flags := compareFlags s.params.acLogic s.regs.a b s.drawnAc s.flags
        draws := s.countAcDraw.draws } :=
  congrArg (State.setFlags · _) s.countAcDraw_eq

/-- R192: a comparison with A, once the operand byte `x.1` is read. -/
theorem comparison_compareA {s : State} {x : Byte × State} (hregs : x.2.regs = s.regs) (hpc : x.2.pc = s.pc) (n : Nat) :
    Comparison s x n ((x.2.compareA x.1).advance n) := by
  have hdiff := sub8_fst_toNat s.regs.a x.1 false x.2.flags
  have hcy := sub8_cy s.regs.a x.1 false x.2.flags
  have hac : (sub8 s.regs.a x.1 false x.2.flags).2.ac = decide (x.1.toNat % 16 ≤ s.regs.a.toNat % 16) := by
    rw [Bool.eq_iff_iff, decide_eq_true_iff]
    exact sub8_ac s.regs.a x.1 false x.2.flags
  refine ⟨(sub8 s.regs.a x.1 false x.2.flags).1,
    compareFlags x.2.params.acLogic s.regs.a x.1 x.2.drawnAc x.2.flags, x.2.countAcDraw.draws, ?_, ?_, hcy, 
    sub8_z s.regs.a x.1 x.2.flags, describes_sub8 s.regs.a x.1 false x.2.flags, ?_⟩
  · rw [← hregs, ← hpc, State.compareA_eq]
    rfl
  · simpa using hdiff
  · rw [compareFlags_ac, hac]
    exact acRule_acAfter x.2 _

/-- Settles O50. -/
theorem comparisons : Obligations.Comparisons := by
  refine ⟨coded2_cpi, fun s r d8 => ⟨coded1_cmp r, ?_, ?_⟩⟩
  · exact ⟨_, exec_eq_after (.cmp r) s, comparison_compareA (s.readOperand_regs r) (s.readOperand_pc r) 1⟩
  · exact ⟨_, exec_eq_after (.cpi d8) s, comparison_compareA (x := (d8, s)) rfl rfl 2⟩

/-! ### The logic unit (R188) -/

/-- The operation of the logic unit on one bit. -/
def logicBit : LogicKind → Bool → Bool → Bool
  | .and => and
  | .xor => xor
  | .or => or

/-- R189 to R191: the logic unit works bit by bit. -/
theorem getLsbD_logicResult (l : LogicKind) (a b : Byte) (j : Nat) :
    (logicResult l a b).getLsbD j = logicBit l (a.getLsbD j) (b.getLsbD j) := by
  cases l
  · exact BitVec.getLsbD_and
  · exact BitVec.getLsbD_xor
  · exact BitVec.getLsbD_or

/-- R188: a logic operation writes A and the status bits, and the count of draws with AC_LOGIC = draw. -/
theorem State.logicOnA_eq (s : State) (l : LogicKind) (b : Byte) :
    s.logicOnA l b =
      { s with
        regs := { s.regs with a := logicResult l s.regs.a b }
        flags := (logic8 s.params.acLogic l s.regs.a b s.drawnAc s.flags).2
        draws := s.countAcDraw.draws } := by
  rw [State.logicOnA, State.setA, State.countAcDraw_regs]
  exact congrArg (fun u => (State.setRegs u _).setFlags _) s.countAcDraw_eq

/-- R188: a logic operation on A, once the operand byte `x.1` is read. -/
theorem logic_logicOnA {s : State} {x : Byte × State} (hregs : x.2.regs = s.regs) (hpc : x.2.pc = s.pc) (l : LogicKind)
    (n : Nat) : Logic (logicBit l) (logicAc8080 l s.regs.a x.1) s x n ((x.2.logicOnA l x.1).advance n) := by
  refine ⟨logicResult l s.regs.a x.1, (logic8 x.2.params.acLogic l s.regs.a x.1 x.2.drawnAc x.2.flags).2,
    x.2.countAcDraw.draws, ?_, fun j _ => getLsbD_logicResult l _ _ j, rfl, describes_szp _ _, acRule_acAfter x.2 _⟩
  rw [← hregs, ← hpc, State.logicOnA_eq]
  rfl

/-- Settles O49. -/
theorem logicOperations : Obligations.LogicOperations := by
  refine ⟨coded2_ani, coded2_xri, coded2_ori, ?_⟩
  intro s r d8 x both
  refine ⟨coded1_ana r, coded1_xra r, coded1_ora r, ?_, ?_, ?_, ?_, ?_, ?_⟩
  · exact ⟨_, exec_eq_after (.ana r) s, logic_logicOnA (s.readOperand_regs r) (s.readOperand_pc r) .and 1⟩
  · exact ⟨_, exec_eq_after (.xra r) s, logic_logicOnA (s.readOperand_regs r) (s.readOperand_pc r) .xor 1⟩
  · exact ⟨_, exec_eq_after (.ora r) s, logic_logicOnA (s.readOperand_regs r) (s.readOperand_pc r) .or 1⟩
  · exact ⟨_, exec_eq_after (.ani d8) s, logic_logicOnA (x := (d8, s)) rfl rfl .and 2⟩
  · exact ⟨_, exec_eq_after (.xri d8) s, logic_logicOnA (x := (d8, s)) rfl rfl .xor 2⟩
  · exact ⟨_, exec_eq_after (.ori d8) s, logic_logicOnA (x := (d8, s)) rfl rfl .or 2⟩

/-! ### DAA (R143) -/

/-- R143, first step: 6 is added. -/
def daaLow (a : Byte) (f : Flags) : Bool := decide (9 < a.toNat % 16) || f.ac

/-- R143, second step, in terms of the byte before the first: 0x60 is added. -/
def daaHigh (a : Byte) (f : Flags) : Bool := decide (0x99 < a.toNat) || f.cy

/-- The nine bits after the first step. -/
def daaFirst (a : Byte) (f : Flags) : BitVec 9 := if daaLow a f then a.setWidth 9 + 6 else a.setWidth 9

theorem daaFirst_toNat (a : Byte) (f : Flags) : (daaFirst a f).toNat = a.toNat + 6 * (daaLow a f).toNat := by
  have ha := a.isLt
  unfold daaFirst
  cases daaLow a f <;> simp <;> omega

/-- R143: the high half is over 9 or carried out after the first step exactly where the byte was over 0x99 before it. Where nothing is
added the low half is at most 9, so the byte is not from 0x9A to 0x9F. -/
theorem daaHigh_eq (a : Byte) (f : Flags) :
    (decide (((daaFirst a f).setWidth 8 : Byte).toNat / 16 > 9) || f.cy || (daaFirst a f).getLsbD 8) = daaHigh a f := by
  have ha := a.isLt
  have hfirst := daaFirst_toNat a f
  have hlow : daaLow a f = false → a.toNat % 16 ≤ 9 := by
    intro h
    simpa using (Bool.or_eq_false_iff.mp h).1
  have hcase : (decide (((daaFirst a f).setWidth 8 : Byte).toNat / 16 > 9) || (daaFirst a f).getLsbD 8) =
      decide (0x99 < a.toNat) := by
    rw [Bool.eq_iff_iff, Bool.or_eq_true, getLsbD_eight_iff, decide_eq_true_iff, decide_eq_true_iff, BitVec.toNat_setWidth, hfirst]
    cases hl : daaLow a f with
    | false =>
      have := hlow hl
      simp
      omega
    | true =>
      simp
      omega
  rw [Bool.or_right_comm, hcase, daaHigh]

theorem decimalAdjust_fst_toNat (a : Byte) (f : Flags) :
    (decimalAdjust a f).1.toNat = (a.toNat + 6 * (daaLow a f).toNat + 0x60 * (daaHigh a f).toNat) % 256 := by
  have hfirst := daaFirst_toNat a f
  have hbyte : (decimalAdjust a f).1 =
      (if daaHigh a f then ((daaFirst a f).setWidth 8).setWidth 9 + 0x60 else ((daaFirst a f).setWidth 8).setWidth 9).setWidth 8 := by
    rw [← daaHigh_eq]
    rfl
  rw [hbyte]
  cases daaHigh a f <;> simp [hfirst]

theorem decimalAdjust_cy (a : Byte) (f : Flags) : (decimalAdjust a f).2.cy = daaHigh a f := by
  have hcy : (decimalAdjust a f).2.cy = if daaHigh a f then true else f.cy := by
    rw [← daaHigh_eq]
    rfl
  rw [hcy]
  cases h : daaHigh a f with
  | false => exact (Bool.or_eq_false_iff.mp h).2
  | true => rfl

theorem decimalAdjust_ac (a : Byte) (f : Flags) :
    (decimalAdjust a f).2.ac = true ↔ daaLow a f = true ∧ 10 ≤ a.toNat % 16 := by
  have hac : (decimalAdjust a f).2.ac = (daaLow a f && decide (lowNibble a + 6 > 15)) := rfl
  rw [hac, Bool.and_eq_true, decide_eq_true_iff, lowNibble]
  exact and_congr_right fun _ => by omega

/-- Settles O35. (The model's own function has the name of the statement.) -/
theorem exec_daa_decimalAdjust : Obligations.DecimalAdjust := by
  refine ⟨coded1_daa, ?_⟩
  intro s a lo hi
  exact ⟨(decimalAdjust s.regs.a s.flags).1, (decimalAdjust s.regs.a s.flags).2, rfl, decimalAdjust_fst_toNat _ _,
    decimalAdjust_cy _ _, decimalAdjust_ac _ _, describes_szp _ _⟩

/-- The digits of a decimal sum: where `l` and `h` carry out of the two digits, taking six out of 16 for each makes them decimal. -/
theorem digits_of_adjusted {a1 a0 v1 v0 c l h y : Nat} (ha1 : a1 ≤ 9) (ha0 : a0 ≤ 9) (hv1 : v1 ≤ 9) (hv0 : v0 ≤ 9) (hc : c ≤ 1)
    (hl : l = if 10 ≤ a0 + v0 + c then 1 else 0) (hh : h = if 10 ≤ a1 + v1 + l then 1 else 0)
    (hy : y + 160 * h = 16 * (a1 + v1) + (a0 + v0 + c) + 6 * l) :
    y / 16 + 10 * h = a1 + v1 + l ∧ y % 16 + 10 * l = a0 + v0 + c ∧ y / 16 ≤ 9 ∧ y % 16 ≤ 9 := by
  split at hl <;> split at hh <;> omega

/-- R143: after the sum of two bytes of two decimal digits, DAA makes the digits of the decimal sum. -/
theorem decimalAdjust_add8 {a v : Byte} (ha : IsBcd a) (hv : IsBcd v) (c : Bool) (f : Flags) :
    let x := add8 a v c f
    let y := decimalAdjust x.1 x.2
    IsBcd y.1 ∧ bcd y.1 = (bcd a + bcd v + c.toNat) % 100 ∧ (y.2.cy = true ↔ 100 ≤ bcd a + bcd v + c.toNat) := by
  intro x y
  obtain ⟨ha1, ha0⟩ := ha
  obtain ⟨hv1, hv0⟩ := hv
  have hc := c.toNat_le
  have hsum : x.1.toNat = (a.toNat + v.toNat + c.toNat) % 256 := add8_fst_toNat a v c f
  have hlow : daaLow x.1 x.2 = true ↔ 10 ≤ a.toNat % 16 + v.toNat % 16 + c.toNat := by
    rw [daaLow, Bool.or_eq_true, decide_eq_true_iff, add8_ac, hsum]
    omega
  have hhigh : daaHigh x.1 x.2 = true ↔ 100 ≤ bcd a + bcd v + c.toNat := by
    rw [daaHigh, Bool.or_eq_true, decide_eq_true_iff, add8_cy, hsum, bcd, bcd]
    omega
  have hlowNat : (daaLow x.1 x.2).toNat = if 10 ≤ a.toNat % 16 + v.toNat % 16 + c.toNat then 1 else 0 := by
    rw [← if_congr hlow rfl rfl]
    cases daaLow x.1 x.2 <;> rfl
  have hhighNat : (daaHigh x.1 x.2).toNat = if 10 ≤ a.toNat / 16 + v.toNat / 16 + (daaLow x.1 x.2).toNat then 1 else 0 := by
    have hcarry : daaHigh x.1 x.2 = true ↔ 10 ≤ a.toNat / 16 + v.toNat / 16 + (daaLow x.1 x.2).toNat := by
      rw [hhigh, hlowNat, bcd, bcd]
      split <;> omega
    rw [← if_congr hcarry rfl rfl]
    cases daaHigh x.1 x.2 <;> rfl
  have hadjust : y.1.toNat = (x.1.toNat + 6 * (daaLow x.1 x.2).toNat + 0x60 * (daaHigh x.1 x.2).toNat) % 256 :=
    decimalAdjust_fst_toNat x.1 x.2
  have hdigits := digits_of_adjusted (y := y.1.toNat) ha1 ha0 hv1 hv0 hc hlowNat hhighNat (by
    rw [hadjust, hsum]
    split at hlowNat <;> split at hhighNat <;> omega)
  obtain ⟨htens, hones, hy1, hy0⟩ := hdigits
  refine ⟨⟨hy1, hy0⟩, ?_, by rw [decimalAdjust_cy, hhigh]⟩
  rw [bcd, bcd, bcd]
  split at hhighNat <;> omega

/-- R143: an addition to A followed by DAA. -/
theorem State.addToA_daa {u : State} {v : Byte} (ha : IsBcd u.regs.a) (hv : IsBcd v) (c : Bool) :
    IsBcd (((u.addToA v c).advance 1).after .daa).regs.a ∧
      bcd (((u.addToA v c).advance 1).after .daa).regs.a = (bcd u.regs.a + bcd v + c.toNat) % 100 ∧
      ((((u.addToA v c).advance 1).after .daa).flags.cy = true ↔ 100 ≤ bcd u.regs.a + bcd v + c.toNat) :=
  decimalAdjust_add8 ha hv c u.flags

/-- Settles O36: the operand's read leaves A. -/
theorem bcdAddition : Obligations.BcdAddition := by
  intro s r v ha hv
  have hregs := s.readOperand_regs r
  have hdaa := State.addToA_daa (u := (s.readOperand r).2) (v := v) (by rwa [hregs]) hv
  rw [hregs] at hdaa
  exact ⟨⟨_, _, exec_eq_after (.add r) s, exec_eq_after .daa _, hdaa false⟩,
    ⟨_, _, exec_eq_after (.adc r) s, exec_eq_after .daa _, hdaa s.flags.cy⟩⟩

/-! ### Register pairs: DAD, INX, DCX, SPHL, LXI (R152 to R157, R210) -/

/-- R23, R24: the number in a pair. -/
theorem readPair_toNat (s : State) (p : PairA) : (s.readPair p).toNat = pairNat s p := by
  cases p
  case sp => rfl
  all_goals exact wordOf_toNat _ _

/-- R23: a pair is written high byte first. -/
theorem pairNat_writePair (s : State) (p : PairA) (v : Word) (n : Nat) : pairNat ((s.writePair p v).advance n) p = v.toNat := by
  rw [← readPair_toNat]
  cases p
  case sp => rfl
  all_goals exact congrArg BitVec.toNat (wordOf_hiByte_loByte v)

/-- R24: a write of a pair changes that pair alone. -/
theorem onlyPair_writePair (s : State) (p : PairA) (v : Word) (n : Nat) : OnlyPair s ((s.writePair p v).advance n) p := by
  cases p <;> rfl

theorem add16_fst_toNat (x y : Word) : (add16 x y).1.toNat = (x.toNat + y.toNat) % 65536 := by
  have hx := x.isLt
  have hy := y.isLt
  simp [add16]

theorem add16_carry (x y : Word) : (add16 x y).2 = true ↔ 65536 ≤ x.toNat + y.toNat := by
  have hx := x.isLt
  have hy := y.isLt
  refine (getLsbD_last_iff (n := 16) _).trans ?_
  simp
  omega

/-- Settles O39. -/
theorem doubleAdd : Obligations.DoubleAdd := by
  refine ⟨coded1_dad .bc, coded1_dad .de, coded1_dad .hl, coded1_dad .sp, fun p s => ?_⟩
  refine ⟨hiByte (add16 s.regs.hl (s.readPair p)).1, loByte (add16 s.regs.hl (s.readPair p)).1,
    (add16 s.regs.hl (s.readPair p)).2, rfl, ?_, ?_⟩
  · rw [← wordOf_toNat, wordOf_hiByte_loByte, add16_fst_toNat, readPair_toNat, ← readPair_toNat s .hl]
    rfl
  · rw [add16_carry, readPair_toNat, ← readPair_toNat s .hl]
    rfl

/-- R153, R154, R210: an instruction that writes a pair and goes on to the next one. -/
theorem writePair_effect (s : State) (p : PairA) (v : Word) (n : Nat) :
    ((s.writePair p v).advance n).pc = s.pc + BitVec.ofNat 16 n ∧ pairNat ((s.writePair p v).advance n) p = v.toNat ∧
      OnlyPair s ((s.writePair p v).advance n) p :=
  ⟨by simp, pairNat_writePair s p v n, onlyPair_writePair s p v n⟩

/-- Settles O40. -/
theorem pairsCountAndLoadSp : Obligations.PairsCountAndLoadSp := by
  refine ⟨coded1_inx .bc, coded1_inx .de, coded1_inx .hl, coded1_inx .sp, coded1_dcx .bc, coded1_dcx .de, coded1_dcx .hl,
    coded1_dcx .sp, coded1_sphl, fun p s => ⟨⟨_, exec_eq_after (.inx p) s, ?_⟩, ⟨_, exec_eq_after (.dcx p) s, ?_⟩, rfl⟩⟩
  · obtain ⟨hpc, hpair, honly⟩ := writePair_effect s p (s.readPair p + 1) 1
    refine ⟨hpc, hpair.trans ?_, honly⟩
    rw [BitVec.toNat_add, readPair_toNat]
    rfl
  · obtain ⟨hpc, hpair, honly⟩ := writePair_effect s p (s.readPair p + 0xFFFF) 1
    refine ⟨hpc, hpair.trans ?_, honly⟩
    rw [BitVec.toNat_add, readPair_toNat]
    rfl

/-- R211: MVI writes its operand and PC. -/
theorem exec_mvi (s : State) (r : Reg8) (d8 : Byte) :
    exec (.mvi r d8) s = .next { s.writeOperand r d8 with pc := s.pc + 2 } :=
  congrArg Host.Outcome.next (State.advance_of_pc_eq (s.writeOperand_pc r d8) 2)

/-- Settles O51. -/
theorem immediateLoads : Obligations.ImmediateLoads :=
  ⟨coded3_lxi .bc, coded3_lxi .de, coded3_lxi .hl, coded3_lxi .sp, fun p r d16 d8 s =>
    ⟨coded2_mvi r, ⟨_, exec_eq_after (.lxi p d16) s, writePair_effect s p d16 3⟩, exec_mvi s r d8⟩⟩

/-! ### STAX and LDAX (R181, R182) -/

theorem exec_stax (s : State) (x : PairX) :
    exec (.stax x) s = .next { s.writeByte (s.regs.indirect x) s.regs.a with pc := s.pc + 1 } :=
  congrArg Host.Outcome.next (State.advance_of_pc_eq (s.writeByte_pc _ _) 1)

theorem exec_ldax (s : State) (x : PairX) :
    let v := s.readByte (s.regs.indirect x)
    exec (.ldax x) s = .next { v.2 with regs := { s.regs with a := v.1 }, pc := s.pc + 1 } := by
  intro v
  have hexec : exec (.ldax x) s = .next ((v.2.setA v.1).advance 1) := rfl
  have hpc : (v.2.setA v.1).pc = s.pc := by simp [v]
  have hregs : v.2.regs = s.regs := s.readByte_regs _
  rw [hexec, State.advance_of_pc_eq hpc, State.setA, hregs]
  rfl

/-- Settles O44: the first-named register of the pair is the high byte of the address. -/
theorem indirectAccumulatorTransfers : Obligations.IndirectAccumulatorTransfers :=
  ⟨coded1_stax .bc, coded1_stax .de, coded1_ldax .bc, coded1_ldax .de, fun s =>
    ⟨exec_stax s .bc, exec_stax s .de, exec_ldax s .bc, exec_ldax s .de⟩⟩

/-! ### PUSH and POP (R150, R151) -/

/-- R33: the status byte is the number of R33's formula. -/
theorem Flags.toByte_eq_ofNat (f : Flags) : f.toByte = BitVec.ofNat 8 (statusNat f) := by
  rw [← Flags.toByte_toNat]
  simp

/-- R150: PUSH stores the two bytes of its operand. -/
theorem exec_push (s : State) (p : PairS) :
    exec (.push p) s = .next { stacked s (s.pushOperand p).1 (s.pushOperand p).2 with pc := s.pc + 1 } :=
  congrArg Host.Outcome.next (State.advance_of_pc_eq (s.pushBytes_pc _ _) 1)

/-- R151: POP loads its operand from the byte at SP, read first, and the byte at SP+1. -/
theorem exec_pop (s : State) (p : PairS) :
    let lo := s.readByte s.sp
    let hi := lo.2.readByte (s.sp + 1)
    exec (.pop p) s = .next { (hi.2.setSp (s.sp + 2)).popOperand p hi.1 lo.1 with pc := s.pc + 1 } := by
  intro lo hi
  have hexec : exec (.pop p) s = .next (((hi.2.setSp (s.sp + 2)).popOperand p (hiByte (wordOf hi.1 lo.1))
      (loByte (wordOf hi.1 lo.1))).advance 1) := rfl
  have hpc : ((hi.2.setSp (s.sp + 2)).popOperand p hi.1 lo.1).pc = s.pc := by simp [hi, lo]
  rw [hexec, hiByte_wordOf, loByte_wordOf, State.advance_of_pc_eq hpc]
  rfl

/-- R151, PSW_ORDER = flags_high: the status byte lies at the higher address. -/
theorem State.popOperand_psw_flagsHigh {s : State} (h : s.params.pswOrder = .flagsHigh) (x y : Byte) :
    s.popOperand .psw x y = (s.setA y).setFlags (Flags.ofByte x) := by
  rw [State.popOperand, h]

/-- R151, PSW_ORDER = a_high: A lies at the higher address. -/
theorem State.popOperand_psw_aHigh {s : State} (h : s.params.pswOrder = .aHigh) (x y : Byte) :
    s.popOperand .psw x y = (s.setA x).setFlags (Flags.ofByte y) := by
  rw [State.popOperand, h]

/-- Settles O37: for PSW the bytes are placed by PSW_ORDER. -/
theorem pushAndPop : Obligations.PushAndPop := by
  refine ⟨coded1_push .bc, coded1_push .de, coded1_push .hl, coded1_push .psw, coded1_pop .bc, coded1_pop .de, coded1_pop .hl,
    coded1_pop .psw, ?_⟩
  intro s f lo hi status
  have hregs : hi.2.regs = s.regs := by simp [hi, lo]
  have hparams : hi.2.params = s.params := by simp [hi, lo]
  have hpop : ∀ p, exec (.pop p) s =
      .next { (hi.2.setSp (s.sp + 2)).popOperand p hi.1 lo.1 with pc := s.pc + 1 } := exec_pop s
  refine ⟨exec_push s .bc, exec_push s .de, exec_push s .hl, fun hp => ?_, fun hp => ?_, ?_, ?_, ?_, fun hp => ?_, fun hp => ?_⟩
  · rw [exec_push, State.pushOperand, hp, Flags.toByte_eq_ofNat]
  · rw [exec_push, State.pushOperand, hp, Flags.toByte_eq_ofNat]
  · rw [← hregs]
    exact hpop .bc
  · rw [← hregs]
    exact hpop .de
  · rw [← hregs]
    exact hpop .hl
  · rw [hpop .psw, State.popOperand_psw_flagsHigh (hparams ▸ hp), ← hregs]
    rfl
  · rw [hpop .psw, State.popOperand_psw_aHigh (hparams ▸ hp), ← hregs]
    rfl

/-- R150, R151: what PUSH takes from a pair POP puts back, for PSW by the layout of the status byte (R33) and in either order. -/
theorem State.popOperand_pushOperand {s u : State} (hregs : u.regs = s.regs) (hflags : u.flags = s.flags)
    (hparams : u.params = s.params) (p : PairS) : u.popOperand p (s.pushOperand p).1 (s.pushOperand p).2 = u := by
  cases p
  case psw =>
    cases horder : s.params.pswOrder with
    | flagsHigh =>
      rw [State.popOperand_psw_flagsHigh (hparams ▸ horder), State.pushOperand, horder, Flags.ofByte_toByte, ← hflags, ← hregs]
      rfl
    | aHigh =>
      rw [State.popOperand_psw_aHigh (hparams ▸ horder), State.pushOperand, horder, Flags.ofByte_toByte, ← hflags, ← hregs]
      rfl
  all_goals
    rw [State.pushOperand, ← hregs]
    rfl

/-- R150: PUSH changes memory, SP and PC alone. -/
theorem State.after_push (s : State) (p : PairS) :
    s.after (.push p) = { s with mem := (s.after (.push p)).mem, sp := s.sp - 2, pc := s.pc + 1 } := by
  simp only [State.after, State.pushBytes, State.writeByte_eq]
  rfl

/-- R151: POP where there is memory under SP. -/
theorem exec_pop_present {u : State} (h : u.kind u.sp ≠ .absent) (h' : u.kind (u.sp + 1) ≠ .absent) (p : PairS) :
    exec (.pop p) u =
      .next { (u.setSp (u.sp + 2)).popOperand p (Memory.read u.mem (u.sp + 1)) (Memory.read u.mem u.sp) with
        pc := u.pc + 1 } := by
  have hpop := exec_pop u p
  simp only [State.readByte_present h, State.readByte_present h'] at hpop
  exact hpop

/-- Settles O38: POP reads at SP-2 and SP-1 what PUSH stored there. -/
theorem pushThenPopRestores : Obligations.PushThenPopRestores := by
  intro p s hram hram'
  have hne : s.sp - 1 ≠ s.sp - 2 := by bv_omega
  have hsp : (s.after (.push p)).sp = s.sp - 2 := s.after_sp (.push p)
  have hkind : ∀ a, (s.after (.push p)).kind a = s.kind a := State.kind_eq_of_params (s.after_params (.push p))
  have hread : ∀ a, Memory.read (s.after (.push p)).mem a =
      if a = s.sp - 2 ∧ s.kind (s.sp - 2) = .ram then (s.pushOperand p).2
      else if a = s.sp - 1 ∧ s.kind (s.sp - 1) = .ram then (s.pushOperand p).1 else Memory.read s.mem a :=
    s.read_pushBytes _ _
  refine ⟨s.after (.push p), exec_eq_after (.push p) s, ?_, fun a ha ha' => ?_⟩
  · have hpresent : (s.after (.push p)).kind (s.after (.push p)).sp ≠ .absent := by
      rw [hkind, hsp]
      exact present_of_ram hram'
    have hpresent' : (s.after (.push p)).kind ((s.after (.push p)).sp + 1) ≠ .absent := by
      rw [hkind, hsp, word_sub_two_add_one]
      exact present_of_ram hram
    have hrestore : ((s.after (.push p)).setSp s.sp).popOperand p (s.pushOperand p).1 (s.pushOperand p).2 =
        (s.after (.push p)).setSp s.sp := by
      refine State.popOperand_pushOperand ?_ ?_ ?_ p
      all_goals rw [s.after_push]; rfl
    rw [exec_pop_present hpresent hpresent', hsp, word_sub_two_add_one, word_sub_two_add_two, hread, hread,
      if_neg fun h => hne h.1, if_pos ⟨rfl, hram⟩, if_pos ⟨rfl, hram'⟩, hrestore, s.after_push,
      show s.pc + 2 = s.pc + 1 + 1 from (BitVec.add_assoc s.pc 1 1).symm]
    rfl
  · rw [hread, if_neg fun h => ha' h.1, if_neg fun h => ha h.1]

end Sys2Proof.Machine
